-- ==== Sys2Proof/Word.lean ====
section
/-!
DEFINITION. The widths of 00_scope.md section 4: the instruction word, the fields cut out of it, and the plain types of
the loader's text. Bit numbering is rule R5's: bit 31 is the most significant, bit 0 the least.
-/

namespace Sys2Proof

/-- `WORD_BITS` = 32: one instruction word (rules R14, R80). -/
abbrev Word := BitVec 32

/-- The value of one two-digit token of a data line (rule R44). -/
abbrev Byte := BitVec 8

/-- `OPCODE_BITS` = 7 (rule R17). -/
abbrev Opcode := BitVec 7

/-- `REG_INDEX_BITS` = 5: a register index, 0 to 31; never a register's value (rules R11, R18). -/
abbrev RegIndex := BitVec 5

/-- `FUNCT3_BITS` = 3 (rule R20). -/
abbrev Funct3 := BitVec 3

/-- `FUNCT7_BITS` = 7 (rule R21). -/
abbrev Funct7 := BitVec 7

/-- `IMM_BITS` = 32, kept as the vector whose two's-complement value (`toInt`) is the signed immediate; the two are in
bijection (rule R19, decision D24). -/
abbrev Immediate := BitVec 32

/-- `MICRO_OP_RANGE`: an integer 0 to 15 (rule R24). -/
abbrev MicroOp := Fin 16

/-- A load address: a non-negative integer with no upper bound (rules R37, R40). -/
abbrev LoadAddress := Nat

/-- One text line of a HEX image, as its characters (rule R41). -/
abbrev Line := List Char

end Sys2Proof
end

