-- ==== Sys2Proof/Config.lean ====
section
/-!
DEFINITION. The names the decoder's tables speak of (rule R29: abstract enumerations, no binary codes) and the
implementation parameters of 00_scope.md section 4, as types. The values the spec gives them (the default tables and
`Config.default`) stand in Decode.lean and Machine/Tables.lean. The block leaves no value free
(93_implementation_defined.md: "No draw and no stuck state is needed"), so no opaque constant stands here.
-/

namespace Sys2Proof

/-- The six formats (rules R16, R82 to R87). -/
inductive InstrFormat where
  | R | I | S | B | U | J
deriving DecidableEq, Repr

/-- The eleven major operations (rule R22). -/
inductive MajorOperation where
  | load | store | branch | jalr | jal | opImm | op | auipc | lui | system | miscMem
deriving DecidableEq, Repr

/-- The eleven names, once each. -/
def MajorOperation.all : List MajorOperation :=
  [.load, .store, .branch, .jalr, .jal, .opImm, .op, .auipc, .lui, .system, .miscMem]

/-- The three execution units (rule R23). -/
inductive ExecutionUnit where
  | INT | BRU | LSU
deriving DecidableEq, Repr

/-- The parameter `OPIMM_F7_KEY` (rule R141, decision D4): what an absent funct7 selects in the micro-op table. -/
inductive OpimmF7Key where
  /-- The default: an absent funct7 selects the "0" column. -/
  | absentAsZero
  /-- The alternative: the key is the raw bits `w[31:25]`. -/
  | word31_25
deriving DecidableEq, Repr

/-- The parameter `BLANK_LINE_POLICY` (rule R61, decision D16). -/
inductive BlankLinePolicy where
  /-- The default: a blank line is a data line with 0 tokens and fails. -/
  | error
  /-- The alternative: a blank line is ignored. -/
  | skip
deriving DecidableEq, Repr

/-- What the funct7 column of a micro-op row holds (rule R140). -/
inductive Funct7Column where
  /-- "—": funct7 is not consulted. -/
  | notConsulted
  /-- "0". -/
  | zero
  /-- "≠0". -/
  | nonZero
deriving DecidableEq, Repr

/-- One row of the micro-op table (40_decode_operation.md section 2), one row per key; `funct3 = none` is "—" or "any":
funct3 is not consulted (rule R140). -/
structure UopRow where
  major   : MajorOperation
  funct3  : Option Funct3
  funct7  : Funct7Column
  microOp : MicroOp
deriving DecidableEq, Repr

/-- The constant tables that the spec leaves as parameters or advises to keep as configuration: `OPC_*` (decision D2),
`FORMAT_OF` (decision D3) and the micro-op table (93_implementation_defined.md U9). An argument of the decode operation,
never a part of State: "In a model they are definitions or configuration fields, not state" (rule R28). -/
structure Tables where
  opcode   : MajorOperation → Opcode
  formatOf : MajorOperation → InstrFormat
  microOps : List UopRow

/-- The settings a running machine is instantiated with (00_scope.md section 4, the rows marked "parameter" that have a
stated alternative or a stated default number). -/
structure Config where
  opimmF7Key      : OpimmF7Key
  blankLinePolicy : BlankLinePolicy
  /-- `ADDR_STRIDE`: bytes per instruction, for reporting only (rule R54, decision D14). -/
  addrStride      : Nat
deriving DecidableEq, Repr

end Sys2Proof
end

