-- ==== Sys2Proof/Machine/Record.lean ====
section
/-!
DEFINITION. The decoder's output and the loader's results as data: the `Instruction` record (rules R15 to R26), the error
kinds (rule R250) with what each carries, the MemoryImage (rule R30), and the results of the two entry points (rule R39).
-/

namespace Sys2Proof.Machine

/-- The decoder's output record, eleven fields, `none` where the format does not define a field (rule R15). -/
structure Instruction where
  format         : InstrFormat
  opcode         : Opcode
  rd             : Option RegIndex
  rs1            : Option RegIndex
  rs2            : Option RegIndex
  /-- The 32-bit vector whose `toInt` is the signed value (rule R19, log entry 23). -/
  immediate      : Option Immediate
  funct3         : Option Funct3
  funct7         : Option Funct7
  majorOperation : MajorOperation
  executionUnit  : ExecutionUnit
  microOp        : MicroOp
deriving DecidableEq, Repr

/-- The five error kinds (rule R250); names only, no codes (rule R29). -/
inductive ErrorKind where
  | invalidInstruction
  | unsupportedOpcode
  | fileFormat
  | addressParse
  | duplicateAddress
deriving DecidableEq, Repr

/-- The two causes of `UnsupportedOpcodeError`, one error kind (rules R252, R253; the payload is decision D9, log entry
19). -/
inductive UnsupportedCause where
  /-- Step 3: the opcode is no key of the format table (rule R252). -/
  | unknownOpcode (opcode : Opcode)
  /-- Step 9: the micro-op table has no entry (rule R253). -/
  | noMicroOp (major : MajorOperation) (funct3 : Option Funct3) (funct7 : Option Funct7)
deriving DecidableEq, Repr

/-- A decoder error (rules R251 to R253). -/
inductive DecodeError where
  /-- The input is not 32 bits long; the offending length is attached (rule R251). -/
  | invalidInstruction (length : Nat)
  | unsupportedOpcode (cause : UnsupportedCause)
deriving DecidableEq, Repr

/-- `DecodeResult`: an Instruction or an error, nothing else (rule R27). -/
inductive DecodeResult where
  | ok (i : Instruction)
  | err (e : DecodeError)
deriving DecidableEq, Repr

/-- Why a data line fails with `FileFormatError` (rules R44, R60, R61, R256); the context is decision D22 (log entry
19). -/
inductive FormatCause where
  /-- The token count is 0 or no multiple of 4. -/
  | tokenCount (n : Nat)
  /-- A token is not exactly two hexadecimal digits. -/
  | badToken (token : List Char)
  /-- No address header has been seen. -/
  | beforeHeader
deriving DecidableEq, Repr

/-- An error that aborts a load (rules R256, R257, R259). -/
inductive LoadError where
  /-- `FileFormatError` with the line's number, from 1. -/
  | fileFormat (line : Nat) (cause : FormatCause)
  /-- `AddressParseError` with the line's number and the payload. -/
  | addressParse (line : Nat) (payload : List Char)
  /-- A decoder error annotated with the current address, the index the instruction would have had, the byte offset and
  the word (rule R259). -/
  | decoder (e : DecodeError) (address : LoadAddress) (offset : Nat) (byteOffset : Nat) (word : Word)
deriving DecidableEq, Repr

/-- A reported condition that does not abort (rule R262). -/
inductive Diagnostic where
  | duplicateAddress (address : LoadAddress)
deriving DecidableEq, Repr

/-- A segment: the ordered run of instructions of one load address (rule R30). -/
abbrev Segment := List Instruction

/-- `MemoryImage`: an ordered mapping from load address to segment, its keys in the order in which they first appeared
(rule R30). No byte is kept (rule R40). -/
abbrev MemoryImage := List (LoadAddress × Segment)

/-- The result of `load` (rule R49). -/
inductive LoadResult where
  | ok (image : MemoryImage) (diags : List Diagnostic)
  | err (e : LoadError)
deriving DecidableEq, Repr

/-- A call the caller makes (rule R39). -/
inductive Call where
  /-- `decode` of a bit string of any length, most significant bit first (rules R5, R14). -/
  | decode (bits : List Bool)
  /-- `load` of the lines of one HEX text, in order (rules R41, R49). -/
  | load (lines : List Line)
deriving DecidableEq, Repr

/-- What the caller gets back (rule R39). -/
inductive Reply where
  | decoded (r : DecodeResult)
  | loaded (r : LoadResult)
deriving DecidableEq, Repr

end Sys2Proof.Machine
end

