-- ==== Sys2Proof/Syntax.lean ====
section
/-!
DEFINITION. The instruction classes: one constructor per row of spec/opcode_table.json, 38 that decode and 10 that fail
with UnsupportedOpcodeError (30_encoding.md rules R100, R103, R104). A constructor holds every bit of the word that the
class leaves open, cut up as the class's format cuts it (rules R82 to R87): register indices, the reported funct3 and
funct7, and the assembled immediate before its sign extension (rules R90 to R94), the written zero bits included.
-/

namespace Sys2Proof

/-- One instruction class with its operands. The RV32I names in the comments are the spec's informative aliases. -/
inductive Instr where
  /-- `LOAD.0`, R160 (lb) -/
  | load0 (rd rs1 : RegIndex) (imm : BitVec 12)
  /-- `LOAD.1`, R161 (lh) -/
  | load1 (rd rs1 : RegIndex) (imm : BitVec 12)
  /-- `LOAD.2`, R162 (lw) -/
  | load2 (rd rs1 : RegIndex) (imm : BitVec 12)
  /-- `LOAD.4`, R163 (lbu) -/
  | load4 (rd rs1 : RegIndex) (imm : BitVec 12)
  /-- `LOAD.5`, R164 (lhu) -/
  | load5 (rd rs1 : RegIndex) (imm : BitVec 12)
  /-- `LOAD.3`, R165 (fails: UnsupportedOpcodeError) -/
  | load3 (rd rs1 : RegIndex) (imm : BitVec 12)
  /-- `LOAD.6`, R165 (fails: UnsupportedOpcodeError) -/
  | load6 (rd rs1 : RegIndex) (imm : BitVec 12)
  /-- `LOAD.7`, R165 (fails: UnsupportedOpcodeError) -/
  | load7 (rd rs1 : RegIndex) (imm : BitVec 12)
  /-- `STORE.0`, R166 (sb) -/
  | store0 (rs1 rs2 : RegIndex) (imm : BitVec 12)
  /-- `STORE.1`, R167 (sh) -/
  | store1 (rs1 rs2 : RegIndex) (imm : BitVec 12)
  /-- `STORE.2`, R168 (sw) -/
  | store2 (rs1 rs2 : RegIndex) (imm : BitVec 12)
  /-- `STORE.3`, R169 (fails: UnsupportedOpcodeError) -/
  | store3 (rs1 rs2 : RegIndex) (imm : BitVec 12)
  /-- `STORE.4`, R169 (fails: UnsupportedOpcodeError) -/
  | store4 (rs1 rs2 : RegIndex) (imm : BitVec 12)
  /-- `STORE.5`, R169 (fails: UnsupportedOpcodeError) -/
  | store5 (rs1 rs2 : RegIndex) (imm : BitVec 12)
  /-- `STORE.6`, R169 (fails: UnsupportedOpcodeError) -/
  | store6 (rs1 rs2 : RegIndex) (imm : BitVec 12)
  /-- `STORE.7`, R169 (fails: UnsupportedOpcodeError) -/
  | store7 (rs1 rs2 : RegIndex) (imm : BitVec 12)
  /-- `MISC-MEM`, R170 (fence) -/
  | miscMem (rd rs1 : RegIndex) (funct3 : Funct3) (imm : BitVec 12)
  /-- `AUIPC`, R180 (auipc) -/
  | auipc (rd : RegIndex) (imm : BitVec 32)
  /-- `LUI`, R181 (lui) -/
  | lui (rd : RegIndex) (imm : BitVec 32)
  /-- `JALR`, R182 (jalr) -/
  | jalr (rd rs1 : RegIndex) (funct3 : Funct3) (imm : BitVec 12)
  /-- `JAL`, R183 (jal) -/
  | jal (rd : RegIndex) (imm : BitVec 21)
  /-- `SYSTEM`, R184 (ecall) -/
  | system (rd rs1 : RegIndex) (funct3 : Funct3) (imm : BitVec 12)
  /-- `OP-IMM.0`, R200 (addi) -/
  | opImm0 (rd rs1 : RegIndex) (imm : BitVec 12)
  /-- `OP-IMM.1`, R201 (slli) -/
  | opImm1 (rd rs1 : RegIndex) (imm : BitVec 12)
  /-- `OP-IMM.2`, R202 (slti) -/
  | opImm2 (rd rs1 : RegIndex) (imm : BitVec 12)
  /-- `OP-IMM.3`, R203 (sltiu) -/
  | opImm3 (rd rs1 : RegIndex) (imm : BitVec 12)
  /-- `OP-IMM.4`, R204 (xori) -/
  | opImm4 (rd rs1 : RegIndex) (imm : BitVec 12)
  /-- `OP-IMM.5`, R205 (srli) -/
  | opImm5 (rd rs1 : RegIndex) (imm : BitVec 12)
  /-- `OP-IMM.6`, R206 (ori) -/
  | opImm6 (rd rs1 : RegIndex) (imm : BitVec 12)
  /-- `OP-IMM.7`, R207 (andi) -/
  | opImm7 (rd rs1 : RegIndex) (imm : BitVec 12)
  /-- `OP.0.z`, R208 (add) -/
  | op0z (rd rs1 rs2 : RegIndex)
  /-- `OP.0.nz`, R209 (sub) -/
  | op0nz (rd rs1 rs2 : RegIndex) (funct7 : Funct7)
  /-- `OP.1`, R210 (sll) -/
  | op1 (rd rs1 rs2 : RegIndex) (funct7 : Funct7)
  /-- `OP.2`, R211 (slt) -/
  | op2 (rd rs1 rs2 : RegIndex) (funct7 : Funct7)
  /-- `OP.3`, R212 (sltu) -/
  | op3 (rd rs1 rs2 : RegIndex) (funct7 : Funct7)
  /-- `OP.4`, R213 (xor) -/
  | op4 (rd rs1 rs2 : RegIndex) (funct7 : Funct7)
  /-- `OP.5.z`, R214 (srl) -/
  | op5z (rd rs1 rs2 : RegIndex)
  /-- `OP.5.nz`, R215 (sra) -/
  | op5nz (rd rs1 rs2 : RegIndex) (funct7 : Funct7)
  /-- `OP.6`, R216 (or) -/
  | op6 (rd rs1 rs2 : RegIndex) (funct7 : Funct7)
  /-- `OP.7`, R217 (and) -/
  | op7 (rd rs1 rs2 : RegIndex) (funct7 : Funct7)
  /-- `BRANCH.0`, R230 (beq) -/
  | branch0 (rs1 rs2 : RegIndex) (imm : BitVec 13)
  /-- `BRANCH.1`, R231 (bne) -/
  | branch1 (rs1 rs2 : RegIndex) (imm : BitVec 13)
  /-- `BRANCH.4`, R232 (blt) -/
  | branch4 (rs1 rs2 : RegIndex) (imm : BitVec 13)
  /-- `BRANCH.5`, R233 (bge) -/
  | branch5 (rs1 rs2 : RegIndex) (imm : BitVec 13)
  /-- `BRANCH.6`, R234 (bltu) -/
  | branch6 (rs1 rs2 : RegIndex) (imm : BitVec 13)
  /-- `BRANCH.7`, R235 (bgeu) -/
  | branch7 (rs1 rs2 : RegIndex) (imm : BitVec 13)
  /-- `BRANCH.2`, R236 (fails: UnsupportedOpcodeError) -/
  | branch2 (rs1 rs2 : RegIndex) (imm : BitVec 13)
  /-- `BRANCH.3`, R236 (fails: UnsupportedOpcodeError) -/
  | branch3 (rs1 rs2 : RegIndex) (imm : BitVec 13)
deriving DecidableEq, Repr

end Sys2Proof
end

