-- ==== Sys2Proof/WellFormed.lean ====
section
/-!
DEFINITION. The terms of `Instr` that stand for a word. Field widths are in the types; four facts are left: the zero
bits that rules R92 to R94 write into an immediate, and the funct7 that rules R209 and R215 require not to be zero.
-/

namespace Sys2Proof

/-- The lowest bit of a B or J immediate is the written `0` (rules R92, R94). -/
def lowBitZero {n : Nat} (imm : BitVec n) : Bool := imm.extractLsb' 0 1 == 0#1

/-- The low twelve bits of a U immediate are the written `0×12` (rule R93). -/
def lowTwelveZero (imm : BitVec 32) : Bool := imm.extractLsb' 0 12 == 0#12

/-- The term is the reading of some word. -/
def Instr.wellFormed : Instr → Bool
  | .load0 _ _ _ | .load1 _ _ _ | .load2 _ _ _ | .load4 _ _ _ | .load5 _ _ _ => true
  | .load3 _ _ _ | .load6 _ _ _ | .load7 _ _ _ => true
  | .store0 _ _ _ | .store1 _ _ _ | .store2 _ _ _ => true
  | .store3 _ _ _ | .store4 _ _ _ | .store5 _ _ _ | .store6 _ _ _ | .store7 _ _ _ => true
  | .miscMem _ _ _ _ | .jalr _ _ _ _ | .system _ _ _ _ => true
  | .auipc _ imm | .lui _ imm => lowTwelveZero imm
  | .jal _ imm => lowBitZero imm
  | .opImm0 _ _ _ | .opImm1 _ _ _ | .opImm2 _ _ _ | .opImm3 _ _ _ => true
  | .opImm4 _ _ _ | .opImm5 _ _ _ | .opImm6 _ _ _ | .opImm7 _ _ _ => true
  | .op0z _ _ _ | .op5z _ _ _ => true
  | .op0nz _ _ _ funct7 | .op5nz _ _ _ funct7 => funct7 != 0#7
  | .op1 _ _ _ _ | .op2 _ _ _ _ | .op3 _ _ _ _ | .op4 _ _ _ _ | .op6 _ _ _ _ | .op7 _ _ _ _ => true
  | .branch0 _ _ imm | .branch1 _ _ imm | .branch4 _ _ imm => lowBitZero imm
  | .branch5 _ _ imm | .branch6 _ _ imm | .branch7 _ _ imm => lowBitZero imm
  | .branch2 _ _ imm | .branch3 _ _ imm => lowBitZero imm

end Sys2Proof
end

