-- ==== Sys2Proof/Decode.lean ====
section
/-!
DEFINITION. From a word to its instruction class and back: the fields of 30_encoding.md, the opcode map (rule R96), the
classification of every word by the rows of spec/opcode_table.json (rule R103), the byte order of an instruction word
(rules R45, R50), the table itself as data, and the encoder. What `decode` yields for a class is in Machine/.
-/

namespace Sys2Proof

/-! ### Bits -/

/-- `a ‖ b`, `a` more significant (00_scope.md section 7); `k` is the width of the result. -/
def cat {m n : Nat} (k : Nat) (a : BitVec m) (b : BitVec n) (h : m + n = k := by decide) : BitVec k :=
  (a ++ b).cast h

/-- `w[6:0]` (rules R81, R132). -/
def opcodeField (w : Word) : Opcode := w.extractLsb' 0 7

/-- `w[11:7]` (rule R88). -/
def rdField (w : Word) : RegIndex := w.extractLsb' 7 5

/-- `w[14:12]` (rule R89). -/
def funct3Field (w : Word) : Funct3 := w.extractLsb' 12 3

/-- `w[19:15]` (rule R88). -/
def rs1Field (w : Word) : RegIndex := w.extractLsb' 15 5

/-- `w[24:20]` (rule R88). -/
def rs2Field (w : Word) : RegIndex := w.extractLsb' 20 5

/-- `w[31:25]` (rule R89). -/
def funct7Field (w : Word) : Funct7 := w.extractLsb' 25 7

/-- `w[31:20]` (rule R90). -/
def immFieldI (w : Word) : BitVec 12 := w.extractLsb' 20 12

/-- `w[31:25] ‖ w[11:7]` (rule R91). -/
def immFieldS (w : Word) : BitVec 12 := cat 12 (w.extractLsb' 25 7) (w.extractLsb' 7 5)

/-- `w[31] ‖ w[7] ‖ w[30:25] ‖ w[11:8] ‖ 0` (rule R92). -/
def immFieldB (w : Word) : BitVec 13 :=
  cat 13 (cat 12 (cat 8 (cat 2 (w.extractLsb' 31 1) (w.extractLsb' 7 1)) (w.extractLsb' 25 6)) (w.extractLsb' 8 4)) 0#1

/-- `w[31:12] ‖ 0×12` (rule R93). -/
def immFieldU (w : Word) : BitVec 32 := cat 32 (w.extractLsb' 12 20) 0#12

/-- `w[31] ‖ w[19:12] ‖ w[20] ‖ w[30:21] ‖ 0` (rule R94). -/
def immFieldJ (w : Word) : BitVec 21 :=
  cat 21 (cat 20 (cat 10 (cat 9 (w.extractLsb' 31 1) (w.extractLsb' 12 8)) (w.extractLsb' 20 1)) (w.extractLsb' 21 10)) 0#1

/-! ### The opcode map -/

/-- The eleven opcodes (rule R96). OP-IMM's value is the source's; PRESUMED: the other ten are the RV32I base opcode map,
the spec's own defaults of the parameters `OPC_*` (decision D2, log entry 1). -/
def opcodeOf : MajorOperation → Opcode
  | .load    => 0b0000011#7
  | .miscMem => 0b0001111#7
  | .opImm   => 0b0010011#7
  | .auipc   => 0b0010111#7
  | .store   => 0b0100011#7
  | .op      => 0b0110011#7
  | .lui     => 0b0110111#7
  | .branch  => 0b1100011#7
  | .jalr    => 0b1100111#7
  | .jal     => 0b1101111#7
  | .system  => 0b1110011#7

/-- Why bytes are no instruction of the table. -/
inductive Reject where
  /-- The opcode is none of the eleven (rule R99). -/
  | unknownOpcode (opcode : Opcode)
  /-- Fewer than the four bytes of a word are left (rules R44, R51, R80). -/
  | tooFewBytes (n : Nat)
deriving DecidableEq, Repr

/-! ### Classification of a word, one function per major operation -/

/-- LOAD, by funct3 (rules R160 to R165). -/
def classifyLoad (w : Word) : Instr :=
  if funct3Field w = 0#3 then .load0 (rdField w) (rs1Field w) (immFieldI w)
  else if funct3Field w = 1#3 then .load1 (rdField w) (rs1Field w) (immFieldI w)
  else if funct3Field w = 2#3 then .load2 (rdField w) (rs1Field w) (immFieldI w)
  else if funct3Field w = 3#3 then .load3 (rdField w) (rs1Field w) (immFieldI w)
  else if funct3Field w = 4#3 then .load4 (rdField w) (rs1Field w) (immFieldI w)
  else if funct3Field w = 5#3 then .load5 (rdField w) (rs1Field w) (immFieldI w)
  else if funct3Field w = 6#3 then .load6 (rdField w) (rs1Field w) (immFieldI w)
  else .load7 (rdField w) (rs1Field w) (immFieldI w)

/-- STORE, by funct3 (rules R166 to R169). -/
def classifyStore (w : Word) : Instr :=
  if funct3Field w = 0#3 then .store0 (rs1Field w) (rs2Field w) (immFieldS w)
  else if funct3Field w = 1#3 then .store1 (rs1Field w) (rs2Field w) (immFieldS w)
  else if funct3Field w = 2#3 then .store2 (rs1Field w) (rs2Field w) (immFieldS w)
  else if funct3Field w = 3#3 then .store3 (rs1Field w) (rs2Field w) (immFieldS w)
  else if funct3Field w = 4#3 then .store4 (rs1Field w) (rs2Field w) (immFieldS w)
  else if funct3Field w = 5#3 then .store5 (rs1Field w) (rs2Field w) (immFieldS w)
  else if funct3Field w = 6#3 then .store6 (rs1Field w) (rs2Field w) (immFieldS w)
  else .store7 (rs1Field w) (rs2Field w) (immFieldS w)

/-- OP-IMM, by funct3 (rules R200 to R207). -/
def classifyOpImm (w : Word) : Instr :=
  if funct3Field w = 0#3 then .opImm0 (rdField w) (rs1Field w) (immFieldI w)
  else if funct3Field w = 1#3 then .opImm1 (rdField w) (rs1Field w) (immFieldI w)
  else if funct3Field w = 2#3 then .opImm2 (rdField w) (rs1Field w) (immFieldI w)
  else if funct3Field w = 3#3 then .opImm3 (rdField w) (rs1Field w) (immFieldI w)
  else if funct3Field w = 4#3 then .opImm4 (rdField w) (rs1Field w) (immFieldI w)
  else if funct3Field w = 5#3 then .opImm5 (rdField w) (rs1Field w) (immFieldI w)
  else if funct3Field w = 6#3 then .opImm6 (rdField w) (rs1Field w) (immFieldI w)
  else .opImm7 (rdField w) (rs1Field w) (immFieldI w)

/-- OP, by funct3 and, for funct3 0 and 5, by whether funct7 is zero (rules R208 to R217). -/
def classifyOp (w : Word) : Instr :=
  if funct3Field w = 0#3 then
    if funct7Field w = 0#7 then .op0z (rdField w) (rs1Field w) (rs2Field w)
    else .op0nz (rdField w) (rs1Field w) (rs2Field w) (funct7Field w)
  else if funct3Field w = 1#3 then .op1 (rdField w) (rs1Field w) (rs2Field w) (funct7Field w)
  else if funct3Field w = 2#3 then .op2 (rdField w) (rs1Field w) (rs2Field w) (funct7Field w)
  else if funct3Field w = 3#3 then .op3 (rdField w) (rs1Field w) (rs2Field w) (funct7Field w)
  else if funct3Field w = 4#3 then .op4 (rdField w) (rs1Field w) (rs2Field w) (funct7Field w)
  else if funct3Field w = 5#3 then
    if funct7Field w = 0#7 then .op5z (rdField w) (rs1Field w) (rs2Field w)
    else .op5nz (rdField w) (rs1Field w) (rs2Field w) (funct7Field w)
  else if funct3Field w = 6#3 then .op6 (rdField w) (rs1Field w) (rs2Field w) (funct7Field w)
  else .op7 (rdField w) (rs1Field w) (rs2Field w) (funct7Field w)

/-- BRANCH, by funct3 (rules R230 to R236). -/
def classifyBranch (w : Word) : Instr :=
  if funct3Field w = 0#3 then .branch0 (rs1Field w) (rs2Field w) (immFieldB w)
  else if funct3Field w = 1#3 then .branch1 (rs1Field w) (rs2Field w) (immFieldB w)
  else if funct3Field w = 2#3 then .branch2 (rs1Field w) (rs2Field w) (immFieldB w)
  else if funct3Field w = 3#3 then .branch3 (rs1Field w) (rs2Field w) (immFieldB w)
  else if funct3Field w = 4#3 then .branch4 (rs1Field w) (rs2Field w) (immFieldB w)
  else if funct3Field w = 5#3 then .branch5 (rs1Field w) (rs2Field w) (immFieldB w)
  else if funct3Field w = 6#3 then .branch6 (rs1Field w) (rs2Field w) (immFieldB w)
  else .branch7 (rs1Field w) (rs2Field w) (immFieldB w)

/-- The class of a word whose major operation is known. -/
def classify (m : MajorOperation) (w : Word) : Instr :=
  match m with
  | .load    => classifyLoad w
  | .store   => classifyStore w
  | .branch  => classifyBranch w
  | .jalr    => .jalr (rdField w) (rs1Field w) (funct3Field w) (immFieldI w)
  | .jal     => .jal (rdField w) (immFieldJ w)
  | .opImm   => classifyOpImm w
  | .op      => classifyOp w
  | .auipc   => .auipc (rdField w) (immFieldU w)
  | .lui     => .lui (rdField w) (immFieldU w)
  | .system  => .system (rdField w) (rs1Field w) (funct3Field w) (immFieldI w)
  | .miscMem => .miscMem (rdField w) (rs1Field w) (funct3Field w) (immFieldI w)

/-- The class of any word: rejected by name when the opcode is none of the eleven (rules R99, R103). -/
def decodeWord (w : Word) : Except Reject Instr :=
  match MajorOperation.all.find? (fun m => opcodeOf m == opcodeField w) with
  | some m => .ok (classify m w)
  | none   => .error (.unknownOpcode (opcodeField w))

/-! ### Bytes -/

/-- `w = b3 ‖ b2 ‖ b1 ‖ b0`: the first byte of a word is its least significant (rules R45, R50). -/
def assemble (b0 b1 b2 b3 : Byte) : Word := cat 32 (cat 24 (cat 16 b3 b2) b1) b0

/-- The class of the word in front, and the bytes after it; total on any bytes. -/
def decodeBytes : List Byte → Except Reject (Instr × List Byte)
  | b0 :: b1 :: b2 :: b3 :: rest =>
    match decodeWord (assemble b0 b1 b2 b3) with
    | .ok i    => .ok (i, rest)
    | .error r => .error r
  | bytes => .error (.tooFewBytes bytes.length)

/-- The four bytes of a word as the HEX image stores them, lowest first (rules R45, R50). -/
def bytesOf (w : Word) : List Byte :=
  [w.extractLsb' 0 8, w.extractLsb' 8 8, w.extractLsb' 16 8, w.extractLsb' 24 8]

/-- The low `nbits` bits of `w` as a word, the bits above them zero. -/
def tableWord (nbits w : Nat) : Word := BitVec.ofNat 32 (w % 2 ^ nbits)

/-- The instruction the decoder reads from a row of the opcode table whose bits are `w`, through its bytes. -/
def decodeTableWord (nbits w : Nat) : Option Instr :=
  match decodeBytes (bytesOf (tableWord nbits w)) with
  | .ok (i, _) => some i
  | .error _   => none

/-! ### The opcode table as data (rule R103) -/

/-- A row of spec/opcode_table.json; `result` is absent on the error rows. -/
structure TableRow where
  mnemonic : String
  format   : InstrFormat
  mask     : Word
  pattern  : Word
  major    : MajorOperation
  result   : Option (ExecutionUnit × MicroOp)
deriving DecidableEq, Repr

/-- The LOAD, STORE and MISC-MEM rows. -/
def tableRowsMemory : List TableRow :=
  [ ⟨"LOAD.0", .I, 0x0000707F, 0x00000003, .load, some (.LSU, 1)⟩,
    ⟨"LOAD.1", .I, 0x0000707F, 0x00001003, .load, some (.LSU, 2)⟩,
    ⟨"LOAD.2", .I, 0x0000707F, 0x00002003, .load, some (.LSU, 3)⟩,
    ⟨"LOAD.4", .I, 0x0000707F, 0x00004003, .load, some (.LSU, 5)⟩,
    ⟨"LOAD.5", .I, 0x0000707F, 0x00005003, .load, some (.LSU, 6)⟩,
    ⟨"LOAD.3", .I, 0x0000707F, 0x00003003, .load, none⟩,
    ⟨"LOAD.6", .I, 0x0000707F, 0x00006003, .load, none⟩,
    ⟨"LOAD.7", .I, 0x0000707F, 0x00007003, .load, none⟩ ] ++
  [ ⟨"STORE.0", .S, 0x0000707F, 0x00000023, .store, some (.LSU, 9)⟩,
    ⟨"STORE.1", .S, 0x0000707F, 0x00001023, .store, some (.LSU, 10)⟩,
    ⟨"STORE.2", .S, 0x0000707F, 0x00002023, .store, some (.LSU, 12)⟩,
    ⟨"STORE.3", .S, 0x0000707F, 0x00003023, .store, none⟩,
    ⟨"STORE.4", .S, 0x0000707F, 0x00004023, .store, none⟩,
    ⟨"STORE.5", .S, 0x0000707F, 0x00005023, .store, none⟩,
    ⟨"STORE.6", .S, 0x0000707F, 0x00006023, .store, none⟩,
    ⟨"STORE.7", .S, 0x0000707F, 0x00007023, .store, none⟩,
    ⟨"MISC-MEM", .I, 0x0000007F, 0x0000000F, .miscMem, some (.INT, 0)⟩ ]

/-- The AUIPC, LUI, JALR, JAL, SYSTEM and OP-IMM rows. -/
def tableRowsUpperAndImmediate : List TableRow :=
  [ ⟨"AUIPC", .U, 0x0000007F, 0x00000017, .auipc, some (.INT, 0)⟩,
    ⟨"LUI", .U, 0x0000007F, 0x00000037, .lui, some (.INT, 9)⟩,
    ⟨"JALR", .I, 0x0000007F, 0x00000067, .jalr, some (.BRU, 0)⟩,
    ⟨"JAL", .J, 0x0000007F, 0x0000006F, .jal, some (.BRU, 8)⟩,
    ⟨"SYSTEM", .I, 0x0000007F, 0x00000073, .system, some (.INT, 9)⟩ ] ++
  [ ⟨"OP-IMM.0", .I, 0x0000707F, 0x00000013, .opImm, some (.INT, 0)⟩,
    ⟨"OP-IMM.1", .I, 0x0000707F, 0x00001013, .opImm, some (.INT, 15)⟩,
    ⟨"OP-IMM.2", .I, 0x0000707F, 0x00002013, .opImm, some (.INT, 10)⟩,
    ⟨"OP-IMM.3", .I, 0x0000707F, 0x00003013, .opImm, some (.INT, 11)⟩,
    ⟨"OP-IMM.4", .I, 0x0000707F, 0x00004013, .opImm, some (.INT, 4)⟩,
    ⟨"OP-IMM.5", .I, 0x0000707F, 0x00005013, .opImm, some (.INT, 14)⟩,
    ⟨"OP-IMM.6", .I, 0x0000707F, 0x00006013, .opImm, some (.INT, 2)⟩,
    ⟨"OP-IMM.7", .I, 0x0000707F, 0x00007013, .opImm, some (.INT, 3)⟩ ]

/-- The OP and BRANCH rows; the row for funct7 zero stands before the row for any other (rule R103). -/
def tableRowsOpAndBranch : List TableRow :=
  [ ⟨"OP.0.z", .R, 0xFE00707F, 0x00000033, .op, some (.INT, 0)⟩,
    ⟨"OP.0.nz", .R, 0x0000707F, 0x00000033, .op, some (.INT, 1)⟩,
    ⟨"OP.1", .R, 0x0000707F, 0x00001033, .op, some (.INT, 15)⟩,
    ⟨"OP.2", .R, 0x0000707F, 0x00002033, .op, some (.INT, 10)⟩,
    ⟨"OP.3", .R, 0x0000707F, 0x00003033, .op, some (.INT, 11)⟩,
    ⟨"OP.4", .R, 0x0000707F, 0x00004033, .op, some (.INT, 4)⟩,
    ⟨"OP.5.z", .R, 0xFE00707F, 0x00005033, .op, some (.INT, 14)⟩,
    ⟨"OP.5.nz", .R, 0x0000707F, 0x00005033, .op, some (.INT, 13)⟩,
    ⟨"OP.6", .R, 0x0000707F, 0x00006033, .op, some (.INT, 2)⟩,
    ⟨"OP.7", .R, 0x0000707F, 0x00007033, .op, some (.INT, 3)⟩ ] ++
  [ ⟨"BRANCH.0", .B, 0x0000707F, 0x00000063, .branch, some (.BRU, 0)⟩,
    ⟨"BRANCH.1", .B, 0x0000707F, 0x00001063, .branch, some (.BRU, 1)⟩,
    ⟨"BRANCH.4", .B, 0x0000707F, 0x00004063, .branch, some (.BRU, 2)⟩,
    ⟨"BRANCH.5", .B, 0x0000707F, 0x00005063, .branch, some (.BRU, 3)⟩,
    ⟨"BRANCH.6", .B, 0x0000707F, 0x00006063, .branch, some (.BRU, 6)⟩,
    ⟨"BRANCH.7", .B, 0x0000707F, 0x00007063, .branch, some (.BRU, 7)⟩,
    ⟨"BRANCH.2", .B, 0x0000707F, 0x00002063, .branch, none⟩,
    ⟨"BRANCH.3", .B, 0x0000707F, 0x00003063, .branch, none⟩ ]

/-- The 48 rows in the table's order. -/
def opcodeTable : List TableRow := tableRowsMemory ++ tableRowsUpperAndImmediate ++ tableRowsOpAndBranch

/-- A word fits a row when `(w AND mask) = match` (rule R103). -/
def TableRow.fits (r : TableRow) (w : Word) : Bool := w &&& r.mask == r.pattern

/-- The FIRST row the word fits (rule R103). -/
def rowOf (w : Word) : Option TableRow := opcodeTable.find? (fun r => r.fits w)

/-- The class's name in the table (rule R104). -/
def Instr.mnemonic : Instr → String
  | .load0 _ _ _ => "LOAD.0"
  | .load1 _ _ _ => "LOAD.1"
  | .load2 _ _ _ => "LOAD.2"
  | .load4 _ _ _ => "LOAD.4"
  | .load5 _ _ _ => "LOAD.5"
  | .load3 _ _ _ => "LOAD.3"
  | .load6 _ _ _ => "LOAD.6"
  | .load7 _ _ _ => "LOAD.7"
  | .store0 _ _ _ => "STORE.0"
  | .store1 _ _ _ => "STORE.1"
  | .store2 _ _ _ => "STORE.2"
  | .store3 _ _ _ => "STORE.3"
  | .store4 _ _ _ => "STORE.4"
  | .store5 _ _ _ => "STORE.5"
  | .store6 _ _ _ => "STORE.6"
  | .store7 _ _ _ => "STORE.7"
  | .miscMem _ _ _ _ => "MISC-MEM"
  | .auipc _ _ => "AUIPC"
  | .lui _ _ => "LUI"
  | .jalr _ _ _ _ => "JALR"
  | .jal _ _ => "JAL"
  | .system _ _ _ _ => "SYSTEM"
  | .opImm0 _ _ _ => "OP-IMM.0"
  | .opImm1 _ _ _ => "OP-IMM.1"
  | .opImm2 _ _ _ => "OP-IMM.2"
  | .opImm3 _ _ _ => "OP-IMM.3"
  | .opImm4 _ _ _ => "OP-IMM.4"
  | .opImm5 _ _ _ => "OP-IMM.5"
  | .opImm6 _ _ _ => "OP-IMM.6"
  | .opImm7 _ _ _ => "OP-IMM.7"
  | .op0z _ _ _ => "OP.0.z"
  | .op0nz _ _ _ _ => "OP.0.nz"
  | .op1 _ _ _ _ => "OP.1"
  | .op2 _ _ _ _ => "OP.2"
  | .op3 _ _ _ _ => "OP.3"
  | .op4 _ _ _ _ => "OP.4"
  | .op5z _ _ _ => "OP.5.z"
  | .op5nz _ _ _ _ => "OP.5.nz"
  | .op6 _ _ _ _ => "OP.6"
  | .op7 _ _ _ _ => "OP.7"
  | .branch0 _ _ _ => "BRANCH.0"
  | .branch1 _ _ _ => "BRANCH.1"
  | .branch4 _ _ _ => "BRANCH.4"
  | .branch5 _ _ _ => "BRANCH.5"
  | .branch6 _ _ _ => "BRANCH.6"
  | .branch7 _ _ _ => "BRANCH.7"
  | .branch2 _ _ _ => "BRANCH.2"
  | .branch3 _ _ _ => "BRANCH.3"

/-! ### The encoder, from the same layouts -/

/-- Format R (rule R82). -/
def encodeR (m : MajorOperation) (funct3 : Funct3) (rd rs1 rs2 : RegIndex) (funct7 : Funct7) : Word :=
  cat 32 (cat 25 (cat 20 (cat 17 (cat 12 funct7 rs2) rs1) funct3) rd) (opcodeOf m)

/-- Format I (rule R83). -/
def encodeI (m : MajorOperation) (funct3 : Funct3) (rd rs1 : RegIndex) (imm : BitVec 12) : Word :=
  cat 32 (cat 25 (cat 20 (cat 17 imm rs1) funct3) rd) (opcodeOf m)

/-- Format S (rule R84). -/
def encodeS (m : MajorOperation) (funct3 : Funct3) (rs1 rs2 : RegIndex) (imm : BitVec 12) : Word :=
  cat 32 (cat 25 (cat 20 (cat 17 (cat 12 (imm.extractLsb' 5 7) rs2) rs1) funct3) (imm.extractLsb' 0 5)) (opcodeOf m)

/-- Format B (rule R85): bits 31, 30:25, 24:20, 19:15, 14:12, 11:8, 7, 6:0. -/
def encodeB (m : MajorOperation) (funct3 : Funct3) (rs1 rs2 : RegIndex) (imm : BitVec 13) : Word :=
  cat 32 (cat 25 (cat 24 (cat 20 (cat 17 (cat 12 (cat 7 (imm.extractLsb' 12 1) (imm.extractLsb' 5 6)) rs2) rs1) funct3)
    (imm.extractLsb' 1 4)) (imm.extractLsb' 11 1)) (opcodeOf m)

/-- Format U (rule R86). -/
def encodeU (m : MajorOperation) (rd : RegIndex) (imm : BitVec 32) : Word :=
  cat 32 (cat 25 (imm.extractLsb' 12 20) rd) (opcodeOf m)

/-- Format J (rule R87): bits 31, 30:21, 20, 19:12, 11:7, 6:0. -/
def encodeJ (m : MajorOperation) (rd : RegIndex) (imm : BitVec 21) : Word :=
  cat 32 (cat 25 (cat 20 (cat 12 (cat 11 (imm.extractLsb' 20 1) (imm.extractLsb' 1 10)) (imm.extractLsb' 11 1))
    (imm.extractLsb' 12 8)) rd) (opcodeOf m)

/-- The word of a well-formed instruction. -/
def encode : Instr → Word
  | .load0 rd rs1 imm => encodeI .load 0 rd rs1 imm
  | .load1 rd rs1 imm => encodeI .load 1 rd rs1 imm
  | .load2 rd rs1 imm => encodeI .load 2 rd rs1 imm
  | .load4 rd rs1 imm => encodeI .load 4 rd rs1 imm
  | .load5 rd rs1 imm => encodeI .load 5 rd rs1 imm
  | .load3 rd rs1 imm => encodeI .load 3 rd rs1 imm
  | .load6 rd rs1 imm => encodeI .load 6 rd rs1 imm
  | .load7 rd rs1 imm => encodeI .load 7 rd rs1 imm
  | .store0 rs1 rs2 imm => encodeS .store 0 rs1 rs2 imm
  | .store1 rs1 rs2 imm => encodeS .store 1 rs1 rs2 imm
  | .store2 rs1 rs2 imm => encodeS .store 2 rs1 rs2 imm
  | .store3 rs1 rs2 imm => encodeS .store 3 rs1 rs2 imm
  | .store4 rs1 rs2 imm => encodeS .store 4 rs1 rs2 imm
  | .store5 rs1 rs2 imm => encodeS .store 5 rs1 rs2 imm
  | .store6 rs1 rs2 imm => encodeS .store 6 rs1 rs2 imm
  | .store7 rs1 rs2 imm => encodeS .store 7 rs1 rs2 imm
  | .miscMem rd rs1 funct3 imm => encodeI .miscMem funct3 rd rs1 imm
  | .auipc rd imm => encodeU .auipc rd imm
  | .lui rd imm => encodeU .lui rd imm
  | .jalr rd rs1 funct3 imm => encodeI .jalr funct3 rd rs1 imm
  | .jal rd imm => encodeJ .jal rd imm
  | .system rd rs1 funct3 imm => encodeI .system funct3 rd rs1 imm
  | .opImm0 rd rs1 imm => encodeI .opImm 0 rd rs1 imm
  | .opImm1 rd rs1 imm => encodeI .opImm 1 rd rs1 imm
  | .opImm2 rd rs1 imm => encodeI .opImm 2 rd rs1 imm
  | .opImm3 rd rs1 imm => encodeI .opImm 3 rd rs1 imm
  | .opImm4 rd rs1 imm => encodeI .opImm 4 rd rs1 imm
  | .opImm5 rd rs1 imm => encodeI .opImm 5 rd rs1 imm
  | .opImm6 rd rs1 imm => encodeI .opImm 6 rd rs1 imm
  | .opImm7 rd rs1 imm => encodeI .opImm 7 rd rs1 imm
  | .op0z rd rs1 rs2 => encodeR .op 0 rd rs1 rs2 0
  | .op0nz rd rs1 rs2 funct7 => encodeR .op 0 rd rs1 rs2 funct7
  | .op1 rd rs1 rs2 funct7 => encodeR .op 1 rd rs1 rs2 funct7
  | .op2 rd rs1 rs2 funct7 => encodeR .op 2 rd rs1 rs2 funct7
  | .op3 rd rs1 rs2 funct7 => encodeR .op 3 rd rs1 rs2 funct7
  | .op4 rd rs1 rs2 funct7 => encodeR .op 4 rd rs1 rs2 funct7
  | .op5z rd rs1 rs2 => encodeR .op 5 rd rs1 rs2 0
  | .op5nz rd rs1 rs2 funct7 => encodeR .op 5 rd rs1 rs2 funct7
  | .op6 rd rs1 rs2 funct7 => encodeR .op 6 rd rs1 rs2 funct7
  | .op7 rd rs1 rs2 funct7 => encodeR .op 7 rd rs1 rs2 funct7
  | .branch0 rs1 rs2 imm => encodeB .branch 0 rs1 rs2 imm
  | .branch1 rs1 rs2 imm => encodeB .branch 1 rs1 rs2 imm
  | .branch4 rs1 rs2 imm => encodeB .branch 4 rs1 rs2 imm
  | .branch5 rs1 rs2 imm => encodeB .branch 5 rs1 rs2 imm
  | .branch6 rs1 rs2 imm => encodeB .branch 6 rs1 rs2 imm
  | .branch7 rs1 rs2 imm => encodeB .branch 7 rs1 rs2 imm
  | .branch2 rs1 rs2 imm => encodeB .branch 2 rs1 rs2 imm
  | .branch3 rs1 rs2 imm => encodeB .branch 3 rs1 rs2 imm

/-- The major operation of a class (rule R103's column `major_operation`). -/
def Instr.majorOperation : Instr → MajorOperation
  | .load0 _ _ _ | .load1 _ _ _ | .load2 _ _ _ | .load3 _ _ _ => .load
  | .load4 _ _ _ | .load5 _ _ _ | .load6 _ _ _ | .load7 _ _ _ => .load
  | .store0 _ _ _ | .store1 _ _ _ | .store2 _ _ _ | .store3 _ _ _ => .store
  | .store4 _ _ _ | .store5 _ _ _ | .store6 _ _ _ | .store7 _ _ _ => .store
  | .miscMem _ _ _ _ => .miscMem
  | .auipc _ _ => .auipc
  | .lui _ _ => .lui
  | .jalr _ _ _ _ => .jalr
  | .jal _ _ => .jal
  | .system _ _ _ _ => .system
  | .opImm0 _ _ _ | .opImm1 _ _ _ | .opImm2 _ _ _ | .opImm3 _ _ _ => .opImm
  | .opImm4 _ _ _ | .opImm5 _ _ _ | .opImm6 _ _ _ | .opImm7 _ _ _ => .opImm
  | .op0z _ _ _ | .op0nz _ _ _ _ | .op1 _ _ _ _ | .op2 _ _ _ _ | .op3 _ _ _ _ => .op
  | .op4 _ _ _ _ | .op5z _ _ _ | .op5nz _ _ _ _ | .op6 _ _ _ _ | .op7 _ _ _ _ => .op
  | .branch0 _ _ _ | .branch1 _ _ _ | .branch2 _ _ _ | .branch3 _ _ _ => .branch
  | .branch4 _ _ _ | .branch5 _ _ _ | .branch6 _ _ _ | .branch7 _ _ _ => .branch

end Sys2Proof
end

