-- ==== Sys2Proof/Machine/Tables.lean ====
section
/-!
DEFINITION. The decoder's constant tables (rule R28) and the default settings (00_scope.md section 4). They are
definitions, the same at all times (rule R281).
-/

namespace Sys2Proof.Machine

/-- `FORMAT_OF`, by major operation (rule R97). OP-IMM's row is the source's; PRESUMED: the others are the RV32I
assignment, the spec's own default (decision D3, log entry 2). -/
def formatOf : MajorOperation → InstrFormat
  | .load    => .I
  | .store   => .S
  | .branch  => .B
  | .jalr    => .I
  | .jal     => .J
  | .opImm   => .I
  | .op      => .R
  | .auipc   => .U
  | .lui     => .U
  | .system  => .I
  | .miscMem => .I

/-- `EU_TABLE` (rule R138). -/
def executionUnit : MajorOperation → ExecutionUnit
  | .load | .store         => .LSU
  | .branch | .jal | .jalr => .BRU
  | .opImm | .op | .auipc | .lui | .system | .miscMem => .INT

/-- The ten keys of the "OP-IMM, OP" rows, which hold for each of the two majors (rule R140 (c)). -/
def aluRows (m : MajorOperation) : List UopRow :=
  [ ⟨m, some 0, .zero, 0⟩, ⟨m, some 0, .nonZero, 1⟩,
    ⟨m, some 1, .notConsulted, 15⟩, ⟨m, some 2, .notConsulted, 10⟩,
    ⟨m, some 3, .notConsulted, 11⟩, ⟨m, some 4, .notConsulted, 4⟩,
    ⟨m, some 5, .zero, 14⟩, ⟨m, some 5, .nonZero, 13⟩,
    ⟨m, some 6, .notConsulted, 2⟩, ⟨m, some 7, .notConsulted, 3⟩ ]

/-- `UOP_TABLE` as printed (40_decode_operation.md section 2), its slash lists paired position by position and "—" and
"any" read as "not consulted" (rule R140; decisions D7, D8, log entry 4). -/
def microOpTable : List UopRow :=
  [ ⟨.load, some 0, .notConsulted, 1⟩, ⟨.load, some 1, .notConsulted, 2⟩, ⟨.load, some 2, .notConsulted, 3⟩,
    ⟨.load, some 4, .notConsulted, 5⟩, ⟨.load, some 5, .notConsulted, 6⟩,
    ⟨.store, some 0, .notConsulted, 9⟩, ⟨.store, some 1, .notConsulted, 10⟩, ⟨.store, some 2, .notConsulted, 12⟩,
    ⟨.miscMem, none, .notConsulted, 0⟩,
    ⟨.auipc, none, .notConsulted, 0⟩,
    ⟨.lui, none, .notConsulted, 9⟩,
    ⟨.jalr, none, .notConsulted, 0⟩,
    ⟨.jal, none, .notConsulted, 8⟩,
    ⟨.system, none, .notConsulted, 9⟩ ] ++ aluRows .opImm ++ aluRows .op ++
  [ ⟨.branch, some 0, .notConsulted, 0⟩, ⟨.branch, some 1, .notConsulted, 1⟩, ⟨.branch, some 4, .notConsulted, 2⟩,
    ⟨.branch, some 5, .notConsulted, 3⟩, ⟨.branch, some 6, .notConsulted, 6⟩, ⟨.branch, some 7, .notConsulted, 7⟩ ]

/-- The tables with the spec's default values. -/
def defaultTables : Tables := { opcode := opcodeOf, formatOf := formatOf, microOps := microOpTable }

/-- `MAJOR_TABLE`: opcode → major operation, none for an unknown opcode (rules R96, R137). -/
def majorOf (T : Tables) (o : Opcode) : Option MajorOperation := MajorOperation.all.find? (fun m => T.opcode m == o)

/-- `FORMAT_TABLE`: opcode → format, rules R96 and R97 composed (rule R133), so that it has the same keys as
`MAJOR_TABLE` (rule R98). -/
def formatAt (T : Tables) (o : Opcode) : Option InstrFormat := (majorOf T o).map T.formatOf

/-- Whether a funct7 key fits a row's funct7 column (rule R140). -/
def Funct7Column.accepts (c : Funct7Column) (key7 : Funct7) : Bool :=
  match c with
  | .notConsulted => true
  | .zero         => key7 == 0
  | .nonZero      => key7 != 0

/-- Whether a row applies to a key (rule R140). -/
def UopRow.applies (r : UopRow) (m : MajorOperation) (funct3 : Option Funct3) (key7 : Funct7) : Bool :=
  r.major == m && (r.funct3 == none || r.funct3 == funct3) && Funct7Column.accepts r.funct7 key7

/-- The lookup of step 9: none where the table has no entry (rule R139). -/
def lookupMicroOp (T : Tables) (m : MajorOperation) (funct3 : Option Funct3) (key7 : Funct7) : Option MicroOp :=
  (T.microOps.find? (fun r => UopRow.applies r m funct3 key7)).map (·.microOp)

/-- The default settings: `absent_as_zero` (decision D4, log entry 3), `error` (decision D16, log entry 15), stride 4
(decision D14, log entry 20). -/
def defaultConfig : Config := { opimmF7Key := .absentAsZero, blankLinePolicy := .error, addrStride := 4 }

end Sys2Proof.Machine
end

