-- ==== Sys2Proof/Machine/Operands.lean ====
section
/-!
DEFINITION. Steps 4 to 6 of `decode` and the funct7 selector of step 9: which fields each format defines and what they
hold (rules R88 to R94, R134 to R136, R141). A field the format lacks is none.
-/

namespace Sys2Proof.Machine

/-- `rd` is present for R, I, U, J (rule R88). -/
def rdOf (f : InstrFormat) (w : Word) : Option RegIndex :=
  match f with
  | .R | .I | .U | .J => some (rdField w)
  | .S | .B           => none

/-- `rs1` is present for R, I, S, B (rule R88). -/
def rs1Of (f : InstrFormat) (w : Word) : Option RegIndex :=
  match f with
  | .R | .I | .S | .B => some (rs1Field w)
  | .U | .J           => none

/-- `rs2` is present for R, S, B (rule R88). -/
def rs2Of (f : InstrFormat) (w : Word) : Option RegIndex :=
  match f with
  | .R | .S | .B => some (rs2Field w)
  | .I | .U | .J => none

/-- `funct3` is present for R, I, S, B (rule R89). -/
def funct3Of (f : InstrFormat) (w : Word) : Option Funct3 :=
  match f with
  | .R | .I | .S | .B => some (funct3Field w)
  | .U | .J           => none

/-- `funct7` is present for R only (rule R89). -/
def funct7Of (f : InstrFormat) (w : Word) : Option Funct7 :=
  match f with
  | .R                     => some (funct7Field w)
  | .I | .S | .B | .U | .J => none

/-- `sext_32` of the assembled field: its own top bit replicated (00_scope.md section 7, 30_encoding.md section 4). -/
def sext32 {n : Nat} (field : BitVec n) : Immediate := field.signExtend 32

/-- The immediate of each format, none for R (rules R90 to R94, R135). -/
def immediateOf (f : InstrFormat) (w : Word) : Option Immediate :=
  match f with
  | .R => none
  | .I => some (sext32 (immFieldI w))
  | .S => some (sext32 (immFieldS w))
  | .B => some (sext32 (immFieldB w))
  | .U => some (sext32 (immFieldU w))
  | .J => some (sext32 (immFieldJ w))

/-- The funct7 selector of step 9 (rule R141): the field where the format has one; else 0, or `w[31:25]` under the
alternative setting (log entry 3). -/
def funct7Key (key : OpimmF7Key) (funct7 : Option Funct7) (w : Word) : Funct7 :=
  match funct7 with
  | some f => f
  | none =>
    match key with
    | .absentAsZero => 0
    | .word31_25    => funct7Field w

end Sys2Proof.Machine
end

