-- ==== Sys2Proof/Machine/State.lean ====
section
/-!
DEFINITION. The machine's state: what the loader keeps (rule R33), the calls and replies that cross the interface (rule
R39), the words at the decoder's input (rule R14) and the settings. The decoder itself holds nothing (rule R10): no
register, pc, flag, mode or control register exists in the block (rules R11 to R13, R34, R35, R38).
-/

namespace Sys2Proof.Machine

/-- What the loader keeps while loading (rule R33). -/
structure Loader where
  image   : MemoryImage
  /-- The address selected by the most recent header, none before the first. -/
  current : Option LoadAddress
  diags   : List Diagnostic
deriving DecidableEq, Repr

/-- The loader's initial state, at the start of every load (rules R36, R282). -/
def Loader.initial : Loader := { image := [], current := none, diags := [] }

/-- The state. `loader` is the spec's (rule R33); the other fields hold what passes across the interface and where a load
stands (INVENTORY.md, State; log entries 5, 6, 27). -/
structure State where
  cfg     : Config
  calls   : List Call
  replies : List Reply
  loading : Bool
  lines   : List Line
  lineNo  : Nat
  words   : List Word
  loader  : Loader
deriving DecidableEq, Repr

/-- Why the machine would stop with a fault: never. Every error of rule R250 is an outcome the spec describes and is
returned to the caller in a next state (log entry 8), and nothing else can go wrong (93_implementation_defined.md, the
paragraph after its table); so no constructor stands here, which is safe. -/
inductive Fault where
deriving DecidableEq, Repr

/-- Why an instruction would be given no meaning. -/
inductive Refusal where
  /-- An instruction not modelled yet; raised by exec's arm for it and by nothing else. Safe: the run stops. No arm raises
  it. -/
  | notModelled (mnemonic : String)
deriving DecidableEq, Repr

/-- The machine right after reset: nothing in the decoder to reset (rules R10, R280), the loader at its initial state
(rules R36, R282), the settings at their defaults, and no call made yet. -/
def State.reset : State :=
  { cfg     := defaultConfig
    calls   := []
    replies := []
    loading := false
    lines   := []
    lineNo  := 0
    words   := []
    loader  := Loader.initial }

end Sys2Proof.Machine
end

