-- ==== Sys2Proof/Machine/Ops.lean ====
section
/-!
DEFINITION. The operations over the memory image and the state that the meanings and the loader share: the image (rules
R30, R31, R43), fetching a word (rule R46), delivering an Instruction (rule R46), and raising an error, which is all the
exception entry this block has (rules R255, R259, R260, R264). There is no return from one (rule R265).
-/

namespace Sys2Proof.Machine

/-! ### The memory image -/

/-- The keys in order (rule R30). -/
def Memory.keys (m : MemoryImage) : List LoadAddress := m.map Prod.fst

/-- The canonical form: no key twice. The order of the keys is the image's own, that of first appearance (rule R30). -/
abbrev Memory.wf (m : MemoryImage) : Prop := (Memory.keys m).Nodup

/-- The segment at a load address; none at an address no header named (rule R53). -/
def Memory.find? (m : MemoryImage) (a : LoadAddress) : Option Segment :=
  match m with
  | [] => none
  | (k, seg) :: rest => if k = a then some seg else Memory.find? rest a

/-- Whether an address is a key (rule R47). -/
def Memory.hasKey (m : MemoryImage) (a : LoadAddress) : Bool := (Memory.find? m a).isSome

/-- The instructions at a load address, in order; none where there is no segment. -/
def Memory.segment (m : MemoryImage) (a : LoadAddress) : Segment := (Memory.find? m a).getD []

/-- A new last key with the empty segment (rule R43). -/
def Memory.addKey (m : MemoryImage) (a : LoadAddress) : MemoryImage := m ++ [(a, [])]

/-- `image[A] <- image[A] ++ [ins]` (rule R46). The loader appends at a key only; at any other address the segment is
made (log entry 21). -/
def Memory.append (m : MemoryImage) (a : LoadAddress) (ins : Instruction) : MemoryImage :=
  match m with
  | [] => [(a, [ins])]
  | (k, seg) :: rest => if k = a then (k, seg ++ [ins]) :: rest else (k, seg) :: Memory.append rest a ins

/-- `addr(image[A][i]) = A + ADDR_STRIDE * i`, for reporting only (rule R54). -/
def Memory.instructionAddress (cfg : Config) (a : LoadAddress) (i : Nat) : Nat := a + cfg.addrStride * i

/-- The byte offset of an index (rules R54, R259). -/
def byteOffset (cfg : Config) (i : Nat) : Nat := cfg.addrStride * i

/-! ### The loader -/

/-- An address header with a valid payload: a repeat is reported and selects the existing segment, a new address becomes
the last key (rules R43, R47, R262). -/
def Loader.select (l : Loader) (a : LoadAddress) : Loader :=
  if Memory.hasKey l.image a then
    { l with diags := l.diags ++ [.duplicateAddress a], current := some a }
  else
    { l with image := Memory.addKey l.image a, current := some a }

/-- A decoded instruction is appended to the segment at `a` (rule R46). -/
def Loader.append (l : Loader) (a : LoadAddress) (ins : Instruction) : Loader :=
  { l with image := Memory.append l.image a ins }

/-- A decoder error annotated with address, index, byte offset and word (rule R259; log entry 19). -/
def annotate (cfg : Config) (l : Loader) (a : LoadAddress) (w : Word) (e : DecodeError) : LoadError :=
  let i := (Memory.segment l.image a).length
  .decoder e a i (byteOffset cfg i) w

/-! ### The state -/

/-- A result handed to the caller (rule R39). -/
def State.reply (s : State) (r : Reply) : State := { s with replies := s.replies ++ [r] }

/-- The loader instance is over: nothing carries over to a later load (rules R261, R282; log entry 12). -/
def State.endLoad (s : State) : State :=
  { s with loading := false, lines := [], lineNo := 0, words := [], loader := Loader.initial }

/-- An aborting error ends the load; the error alone is returned, no image (rules R49, R258, R260). -/
def State.abort (s : State) (e : LoadError) : State := (State.endLoad s).reply (.loaded (.err e))

/-- The last line is consumed: the image and the diagnostics are returned (rules R32, R49). -/
def State.finish (s : State) : State := (State.endLoad s).reply (.loaded (.ok s.loader.image s.loader.diags))

/-- `decode` yielded an Instruction: the loader appends it to the current segment; with no load running it is returned to
the caller (rules R39, R46). A word with no current segment fails as its data line does (rule R60; log entry 13). -/
def accept (ins : Instruction) (s : State) : State :=
  if s.loading then
    match s.loader.current with
    | some a => { s with loader := s.loader.append a ins }
    | none   => s.abort (.fileFormat s.lineNo .beforeHeader)
  else s.reply (.decoded (.ok ins))

/-- TAKING AN EXCEPTION, as far as this block has one: `decode` raised an error on the word `w`. Nothing is saved and no
vector is taken (rule R264); no Instruction exists (rule R255). The loader aborts with the error annotated (rules R46,
R259, R260); with no load running the error is returned to the caller (rules R27, R39). -/
def raise (w : Word) (e : DecodeError) (s : State) : State :=
  if s.loading then
    match s.loader.current with
    | some a => s.abort (annotate s.cfg s.loader a w e)
    | none   => s.abort (.fileFormat s.lineNo .beforeHeader)
  else s.reply (.decoded (.err e))

/-- A word that some class fits and that has no micro-op (rule R253). -/
def raiseNoMicroOp (w : Word) (m : MajorOperation) (funct3 : Funct3) (s : State) : State :=
  raise w (.unsupportedOpcode (.noMicroOp m (some funct3) none)) s

/-- What becomes of the result of `decode` on the word `w`. -/
def deliver (w : Word) (r : DecodeResult) (s : State) : State :=
  match r with
  | .ok ins => accept ins s
  | .err e  => raise w e s

/-- Fetching: the oldest word at the decoder's input leaves it (rule R46: words are decoded in order). -/
def fetch (s : State) : Option (Word × State) :=
  match s.words with
  | []      => none
  | w :: ws => some (w, { s with words := ws })

/-- A word that `decodeWord` rejects: its opcode is unknown (rules R99, R252). -/
def rejectWord (w : Word) (s : State) : State :=
  raise w (.unsupportedOpcode (.unknownOpcode (opcodeField w))) s

end Sys2Proof.Machine
end

