-- ==== Sys2Proof/Machine/BranchClass.lean ====
section
/-!
DEFINITION. The BRANCH classes (44_branch.md): opcode `1100011`, format B, execution unit BRU. Nothing is compared and no target is
computed or checked; the immediate is a byte offset.
-/

namespace Sys2Proof.Machine

/-- The fields all BRANCH classes share, with the class's funct3 and micro-op; `rd` is absent. -/
def branchRecord (funct3 : Funct3) (microOp : MicroOp) (rs1 rs2 : RegIndex) (imm : BitVec 13) : Instruction :=
  { format := .B, opcode := opcodeOf .branch, rd := none, rs1 := some rs1, rs2 := some rs2
    immediate := some (sext32 imm), funct3 := some funct3, funct7 := none
    majorOperation := .branch, executionUnit := .BRU, microOp := microOp }

/-- BRANCH.0: micro-op 0 (rule R230). -/
def execBranch0 (rs1 rs2 : RegIndex) (imm : BitVec 13) (s : State) : Host.Outcome State Fault Refusal :=
  .next (accept (branchRecord 0 0 rs1 rs2 imm) s)

/-- BRANCH.1: micro-op 1 (rule R231). -/
def execBranch1 (rs1 rs2 : RegIndex) (imm : BitVec 13) (s : State) : Host.Outcome State Fault Refusal :=
  .next (accept (branchRecord 1 1 rs1 rs2 imm) s)

/-- BRANCH.4: micro-op 2 (rule R232). -/
def execBranch4 (rs1 rs2 : RegIndex) (imm : BitVec 13) (s : State) : Host.Outcome State Fault Refusal :=
  .next (accept (branchRecord 4 2 rs1 rs2 imm) s)

/-- BRANCH.5: micro-op 3 (rule R233). -/
def execBranch5 (rs1 rs2 : RegIndex) (imm : BitVec 13) (s : State) : Host.Outcome State Fault Refusal :=
  .next (accept (branchRecord 5 3 rs1 rs2 imm) s)

/-- BRANCH.6: micro-op 6 (rule R234). -/
def execBranch6 (rs1 rs2 : RegIndex) (imm : BitVec 13) (s : State) : Host.Outcome State Fault Refusal :=
  .next (accept (branchRecord 6 6 rs1 rs2 imm) s)

/-- BRANCH.7: micro-op 7 (rule R235). -/
def execBranch7 (rs1 rs2 : RegIndex) (imm : BitVec 13) (s : State) : Host.Outcome State Fault Refusal :=
  .next (accept (branchRecord 7 7 rs1 rs2 imm) s)

/-- BRANCH with funct3 2: `UnsupportedOpcodeError` (rule R236). -/
def execBranch2 (rs1 rs2 : RegIndex) (imm : BitVec 13) (s : State) : Host.Outcome State Fault Refusal :=
  .next (raiseNoMicroOp (encode (.branch2 rs1 rs2 imm)) .branch 2 s)

/-- BRANCH with funct3 3: `UnsupportedOpcodeError` (rule R236). -/
def execBranch3 (rs1 rs2 : RegIndex) (imm : BitVec 13) (s : State) : Host.Outcome State Fault Refusal :=
  .next (raiseNoMicroOp (encode (.branch3 rs1 rs2 imm)) .branch 3 s)

end Sys2Proof.Machine
end

