-- ==== Sys2Proof/Machine/LoadClass.lean ====
section
/-!
DEFINITION. The LOAD classes (41_load_store_miscmem.md section 1): opcode `0000011`, format I, execution unit LSU. Nothing is
loaded: the class is decoded, never performed (rule R13).
-/

namespace Sys2Proof.Machine

/-- The fields all LOAD classes share, with the class's funct3 and micro-op. -/
def loadRecord (funct3 : Funct3) (microOp : MicroOp) (rd rs1 : RegIndex) (imm : BitVec 12) : Instruction :=
  { format := .I, opcode := opcodeOf .load, rd := some rd, rs1 := some rs1, rs2 := none
    immediate := some (sext32 imm), funct3 := some funct3, funct7 := none
    majorOperation := .load, executionUnit := .LSU, microOp := microOp }

/-- LOAD.0: micro-op 1 (rule R160). -/
def execLoad0 (rd rs1 : RegIndex) (imm : BitVec 12) (s : State) : Host.Outcome State Fault Refusal :=
  .next (accept (loadRecord 0 1 rd rs1 imm) s)

/-- LOAD.1: micro-op 2 (rule R161). -/
def execLoad1 (rd rs1 : RegIndex) (imm : BitVec 12) (s : State) : Host.Outcome State Fault Refusal :=
  .next (accept (loadRecord 1 2 rd rs1 imm) s)

/-- LOAD.2: micro-op 3 (rule R162). -/
def execLoad2 (rd rs1 : RegIndex) (imm : BitVec 12) (s : State) : Host.Outcome State Fault Refusal :=
  .next (accept (loadRecord 2 3 rd rs1 imm) s)

/-- LOAD.4: micro-op 5 (rule R163). -/
def execLoad4 (rd rs1 : RegIndex) (imm : BitVec 12) (s : State) : Host.Outcome State Fault Refusal :=
  .next (accept (loadRecord 4 5 rd rs1 imm) s)

/-- LOAD.5: micro-op 6 (rule R164). -/
def execLoad5 (rd rs1 : RegIndex) (imm : BitVec 12) (s : State) : Host.Outcome State Fault Refusal :=
  .next (accept (loadRecord 5 6 rd rs1 imm) s)

/-- LOAD with funct3 3: `UnsupportedOpcodeError` (rule R165). -/
def execLoad3 (rd rs1 : RegIndex) (imm : BitVec 12) (s : State) : Host.Outcome State Fault Refusal :=
  .next (raiseNoMicroOp (encode (.load3 rd rs1 imm)) .load 3 s)

/-- LOAD with funct3 6: `UnsupportedOpcodeError` (rule R165). -/
def execLoad6 (rd rs1 : RegIndex) (imm : BitVec 12) (s : State) : Host.Outcome State Fault Refusal :=
  .next (raiseNoMicroOp (encode (.load6 rd rs1 imm)) .load 6 s)

/-- LOAD with funct3 7: `UnsupportedOpcodeError` (rule R165). -/
def execLoad7 (rd rs1 : RegIndex) (imm : BitVec 12) (s : State) : Host.Outcome State Fault Refusal :=
  .next (raiseNoMicroOp (encode (.load7 rd rs1 imm)) .load 7 s)

end Sys2Proof.Machine
end

