-- ==== Sys2Proof/Machine/OpClass.lean ====
section
/-!
DEFINITION. The OP classes (43_opimm_op.md section 2): opcode `0110011`, format R, execution unit INT. `funct7` is reported, and
consulted only for zero in the rows for funct3 0 and 5; there is no M extension (rule R218).
-/

namespace Sys2Proof.Machine

/-- The fields all OP classes share, with the class's funct3 and micro-op; no immediate. -/
def opRecord (funct3 : Funct3) (microOp : MicroOp) (rd rs1 rs2 : RegIndex) (funct7 : Funct7) : Instruction :=
  { format := .R, opcode := opcodeOf .op, rd := some rd, rs1 := some rs1, rs2 := some rs2
    immediate := none, funct3 := some funct3, funct7 := some funct7
    majorOperation := .op, executionUnit := .INT, microOp := microOp }

/-- OP.0.z: micro-op 0, funct7 zero (rule R208). -/
def execOp0z (rd rs1 rs2 : RegIndex) (s : State) : Host.Outcome State Fault Refusal :=
  .next (accept (opRecord 0 0 rd rs1 rs2 0) s)

/-- OP.0.nz: micro-op 1, for every non-zero funct7 (rule R209). -/
def execOp0nz (rd rs1 rs2 : RegIndex) (funct7 : Funct7) (s : State) : Host.Outcome State Fault Refusal :=
  .next (accept (opRecord 0 1 rd rs1 rs2 funct7) s)

/-- OP.1: micro-op 15, for every funct7 (rule R210). -/
def execOp1 (rd rs1 rs2 : RegIndex) (funct7 : Funct7) (s : State) : Host.Outcome State Fault Refusal :=
  .next (accept (opRecord 1 15 rd rs1 rs2 funct7) s)

/-- OP.2: micro-op 10, for every funct7 (rule R211). -/
def execOp2 (rd rs1 rs2 : RegIndex) (funct7 : Funct7) (s : State) : Host.Outcome State Fault Refusal :=
  .next (accept (opRecord 2 10 rd rs1 rs2 funct7) s)

/-- OP.3: micro-op 11, for every funct7 (rule R212). -/
def execOp3 (rd rs1 rs2 : RegIndex) (funct7 : Funct7) (s : State) : Host.Outcome State Fault Refusal :=
  .next (accept (opRecord 3 11 rd rs1 rs2 funct7) s)

/-- OP.4: micro-op 4, for every funct7 (rule R213). -/
def execOp4 (rd rs1 rs2 : RegIndex) (funct7 : Funct7) (s : State) : Host.Outcome State Fault Refusal :=
  .next (accept (opRecord 4 4 rd rs1 rs2 funct7) s)

/-- OP.5.z: micro-op 14, funct7 zero (rule R214). -/
def execOp5z (rd rs1 rs2 : RegIndex) (s : State) : Host.Outcome State Fault Refusal :=
  .next (accept (opRecord 5 14 rd rs1 rs2 0) s)

/-- OP.5.nz: micro-op 13, for every non-zero funct7 (rule R215). -/
def execOp5nz (rd rs1 rs2 : RegIndex) (funct7 : Funct7) (s : State) : Host.Outcome State Fault Refusal :=
  .next (accept (opRecord 5 13 rd rs1 rs2 funct7) s)

/-- OP.6: micro-op 2, for every funct7 (rule R216). -/
def execOp6 (rd rs1 rs2 : RegIndex) (funct7 : Funct7) (s : State) : Host.Outcome State Fault Refusal :=
  .next (accept (opRecord 6 2 rd rs1 rs2 funct7) s)

/-- OP.7: micro-op 3, for every funct7 (rule R217). -/
def execOp7 (rd rs1 rs2 : RegIndex) (funct7 : Funct7) (s : State) : Host.Outcome State Fault Refusal :=
  .next (accept (opRecord 7 3 rd rs1 rs2 funct7) s)

end Sys2Proof.Machine
end

