-- ==== Sys2Proof/Machine/OpImmClass.lean ====
section
/-!
DEFINITION. The OP-IMM classes (43_opimm_op.md section 1): opcode `0010011`, format I, execution unit INT. `funct7` is absent; what
that selects in the rows for funct3 0 and 5 is the setting `OPIMM_F7_KEY` (rule R141, the note after rule R207).
-/

namespace Sys2Proof.Machine

/-- The fields all OP-IMM classes share, with the class's funct3 and micro-op. -/
def opImmRecord (funct3 : Funct3) (microOp : MicroOp) (rd rs1 : RegIndex) (imm : BitVec 12) : Instruction :=
  { format := .I, opcode := opcodeOf .opImm, rd := some rd, rs1 := some rs1, rs2 := none
    immediate := some (sext32 imm), funct3 := some funct3, funct7 := none
    majorOperation := .opImm, executionUnit := .INT, microOp := microOp }

/-- The micro-op of an OP-IMM class whose row has a funct7 column "0 / ≠0": always the "0" column under
`absent_as_zero`, by `w[31:25]`, the immediate's upper seven bits, under `word_31_25` (rule R141). -/
def opImmColumn (key : OpimmF7Key) (imm : BitVec 12) (zero nonZero : MicroOp) : MicroOp :=
  match key with
  | .absentAsZero => zero
  | .word31_25    => if imm.extractLsb' 5 7 = 0#7 then zero else nonZero

/-- OP-IMM.0: micro-op 0; under `word_31_25`, 1 when any of `w[31:25]` is set (rule R200). -/
def execOpImm0 (rd rs1 : RegIndex) (imm : BitVec 12) (s : State) : Host.Outcome State Fault Refusal :=
  .next (accept (opImmRecord 0 (opImmColumn s.cfg.opimmF7Key imm 0 1) rd rs1 imm) s)

/-- OP-IMM.1: micro-op 15 (rule R201). -/
def execOpImm1 (rd rs1 : RegIndex) (imm : BitVec 12) (s : State) : Host.Outcome State Fault Refusal :=
  .next (accept (opImmRecord 1 15 rd rs1 imm) s)

/-- OP-IMM.2: micro-op 10 (rule R202). -/
def execOpImm2 (rd rs1 : RegIndex) (imm : BitVec 12) (s : State) : Host.Outcome State Fault Refusal :=
  .next (accept (opImmRecord 2 10 rd rs1 imm) s)

/-- OP-IMM.3: micro-op 11 (rule R203). -/
def execOpImm3 (rd rs1 : RegIndex) (imm : BitVec 12) (s : State) : Host.Outcome State Fault Refusal :=
  .next (accept (opImmRecord 3 11 rd rs1 imm) s)

/-- OP-IMM.4: micro-op 4 (rule R204). -/
def execOpImm4 (rd rs1 : RegIndex) (imm : BitVec 12) (s : State) : Host.Outcome State Fault Refusal :=
  .next (accept (opImmRecord 4 4 rd rs1 imm) s)

/-- OP-IMM.5: micro-op 14; under `word_31_25`, 13 when any of `w[31:25]` is set (rule R205). -/
def execOpImm5 (rd rs1 : RegIndex) (imm : BitVec 12) (s : State) : Host.Outcome State Fault Refusal :=
  .next (accept (opImmRecord 5 (opImmColumn s.cfg.opimmF7Key imm 14 13) rd rs1 imm) s)

/-- OP-IMM.6: micro-op 2 (rule R206). -/
def execOpImm6 (rd rs1 : RegIndex) (imm : BitVec 12) (s : State) : Host.Outcome State Fault Refusal :=
  .next (accept (opImmRecord 6 2 rd rs1 imm) s)

/-- OP-IMM.7: micro-op 3 (rule R207). -/
def execOpImm7 (rd rs1 : RegIndex) (imm : BitVec 12) (s : State) : Host.Outcome State Fault Refusal :=
  .next (accept (opImmRecord 7 3 rd rs1 imm) s)

end Sys2Proof.Machine
end

