-- ==== Sys2Proof/Machine/StoreClass.lean ====
section
/-!
DEFINITION. The STORE classes (41_load_store_miscmem.md section 2): opcode `0100011`, format S, execution unit LSU. Nothing is
stored: the class is decoded, never performed (rule R13).
-/

namespace Sys2Proof.Machine

/-- The fields all STORE classes share, with the class's funct3 and micro-op; `rd` is absent. -/
def storeRecord (funct3 : Funct3) (microOp : MicroOp) (rs1 rs2 : RegIndex) (imm : BitVec 12) : Instruction :=
  { format := .S, opcode := opcodeOf .store, rd := none, rs1 := some rs1, rs2 := some rs2
    immediate := some (sext32 imm), funct3 := some funct3, funct7 := none
    majorOperation := .store, executionUnit := .LSU, microOp := microOp }

/-- STORE.0: micro-op 9 (rule R166). -/
def execStore0 (rs1 rs2 : RegIndex) (imm : BitVec 12) (s : State) : Host.Outcome State Fault Refusal :=
  .next (accept (storeRecord 0 9 rs1 rs2 imm) s)

/-- STORE.1: micro-op 10 (rule R167). -/
def execStore1 (rs1 rs2 : RegIndex) (imm : BitVec 12) (s : State) : Host.Outcome State Fault Refusal :=
  .next (accept (storeRecord 1 10 rs1 rs2 imm) s)

/-- STORE.2: micro-op 12 (rule R168). It is 12, not 11, as printed (93_implementation_defined.md U9). -/
def execStore2 (rs1 rs2 : RegIndex) (imm : BitVec 12) (s : State) : Host.Outcome State Fault Refusal :=
  .next (accept (storeRecord 2 12 rs1 rs2 imm) s)

/-- STORE with funct3 3: `UnsupportedOpcodeError` (rule R169). -/
def execStore3 (rs1 rs2 : RegIndex) (imm : BitVec 12) (s : State) : Host.Outcome State Fault Refusal :=
  .next (raiseNoMicroOp (encode (.store3 rs1 rs2 imm)) .store 3 s)

/-- STORE with funct3 4: `UnsupportedOpcodeError` (rule R169). -/
def execStore4 (rs1 rs2 : RegIndex) (imm : BitVec 12) (s : State) : Host.Outcome State Fault Refusal :=
  .next (raiseNoMicroOp (encode (.store4 rs1 rs2 imm)) .store 4 s)

/-- STORE with funct3 5: `UnsupportedOpcodeError` (rule R169). -/
def execStore5 (rs1 rs2 : RegIndex) (imm : BitVec 12) (s : State) : Host.Outcome State Fault Refusal :=
  .next (raiseNoMicroOp (encode (.store5 rs1 rs2 imm)) .store 5 s)

/-- STORE with funct3 6: `UnsupportedOpcodeError` (rule R169). -/
def execStore6 (rs1 rs2 : RegIndex) (imm : BitVec 12) (s : State) : Host.Outcome State Fault Refusal :=
  .next (raiseNoMicroOp (encode (.store6 rs1 rs2 imm)) .store 6 s)

/-- STORE with funct3 7: `UnsupportedOpcodeError` (rule R169). -/
def execStore7 (rs1 rs2 : RegIndex) (imm : BitVec 12) (s : State) : Host.Outcome State Fault Refusal :=
  .next (raiseNoMicroOp (encode (.store7 rs1 rs2 imm)) .store 7 s)

end Sys2Proof.Machine
end

