-- ==== Sys2Proof/Machine/WholeOpcode.lean ====
section
/-!
DEFINITION. The classes that the opcode alone selects: MISC-MEM (41_load_store_miscmem.md section 3) and AUIPC, LUI, JALR, JAL and
SYSTEM (42_upper_jump_system.md). No word of these opcodes fails; where the format has a funct3 it is reported and not
consulted. No fence, jump, trap, privilege check or CSR access happens here (rules R57, R182 to R184, R265, R267).
-/

namespace Sys2Proof.Machine

/-- An I-format record with a reported funct3. -/
def wholeOpcodeRecordI (m : MajorOperation) (eu : ExecutionUnit) (microOp : MicroOp)
    (rd rs1 : RegIndex) (funct3 : Funct3) (imm : BitVec 12) : Instruction :=
  { format := .I, opcode := opcodeOf m, rd := some rd, rs1 := some rs1, rs2 := none
    immediate := some (sext32 imm), funct3 := some funct3, funct7 := none
    majorOperation := m, executionUnit := eu, microOp := microOp }

/-- A U-format record. -/
def upperRecord (m : MajorOperation) (microOp : MicroOp) (rd : RegIndex) (imm : BitVec 32) : Instruction :=
  { format := .U, opcode := opcodeOf m, rd := some rd, rs1 := none, rs2 := none
    immediate := some (sext32 imm), funct3 := none, funct7 := none
    majorOperation := m, executionUnit := .INT, microOp := microOp }

/-- A J-format record. -/
def jumpRecord (microOp : MicroOp) (rd : RegIndex) (imm : BitVec 21) : Instruction :=
  { format := .J, opcode := opcodeOf .jal, rd := some rd, rs1 := none, rs2 := none
    immediate := some (sext32 imm), funct3 := none, funct7 := none
    majorOperation := .jal, executionUnit := .BRU, microOp := microOp }

/-- MISC-MEM: micro-op 0, unit INT, any funct3 (rule R170). -/
def execMiscMem (rd rs1 : RegIndex) (funct3 : Funct3) (imm : BitVec 12) (s : State) : Host.Outcome State Fault Refusal :=
  .next (accept (wholeOpcodeRecordI .miscMem .INT 0 rd rs1 funct3 imm) s)

/-- JALR: micro-op 0, unit BRU, any funct3 (rule R182). -/
def execJalr (rd rs1 : RegIndex) (funct3 : Funct3) (imm : BitVec 12) (s : State) : Host.Outcome State Fault Refusal :=
  .next (accept (wholeOpcodeRecordI .jalr .BRU 0 rd rs1 funct3 imm) s)

/-- SYSTEM: micro-op 9, unit INT, any funct3 (rule R184). -/
def execSystem (rd rs1 : RegIndex) (funct3 : Funct3) (imm : BitVec 12) (s : State) : Host.Outcome State Fault Refusal :=
  .next (accept (wholeOpcodeRecordI .system .INT 9 rd rs1 funct3 imm) s)

/-- AUIPC: micro-op 0; no pc is added (rule R180). -/
def execAuipc (rd : RegIndex) (imm : BitVec 32) (s : State) : Host.Outcome State Fault Refusal :=
  .next (accept (upperRecord .auipc 0 rd imm) s)

/-- LUI: micro-op 9; no pc is added (rule R181). -/
def execLui (rd : RegIndex) (imm : BitVec 32) (s : State) : Host.Outcome State Fault Refusal :=
  .next (accept (upperRecord .lui 9 rd imm) s)

/-- JAL: micro-op 8; the immediate is a byte offset that is added to nothing (rule R183). -/
def execJal (rd : RegIndex) (imm : BitVec 21) (s : State) : Host.Outcome State Fault Refusal :=
  .next (accept (jumpRecord 8 rd imm) s)

end Sys2Proof.Machine
end

