-- ==== Sys2Proof/Machine/Dispatch.lean ====
section
/-!
DEFINITION. One arm per instruction class: the meaning it calls.
-/

namespace Sys2Proof.Machine

def exec (i : Instr) (s : State) : Host.Outcome State Fault Refusal :=
  match i with
  | .load0 rd rs1 imm => Sys2Proof.Machine.execLoad0 rd rs1 imm s
  | .load1 rd rs1 imm => Sys2Proof.Machine.execLoad1 rd rs1 imm s
  | .load2 rd rs1 imm => Sys2Proof.Machine.execLoad2 rd rs1 imm s
  | .load4 rd rs1 imm => Sys2Proof.Machine.execLoad4 rd rs1 imm s
  | .load5 rd rs1 imm => Sys2Proof.Machine.execLoad5 rd rs1 imm s
  | .load3 rd rs1 imm => Sys2Proof.Machine.execLoad3 rd rs1 imm s
  | .load6 rd rs1 imm => Sys2Proof.Machine.execLoad6 rd rs1 imm s
  | .load7 rd rs1 imm => Sys2Proof.Machine.execLoad7 rd rs1 imm s
  | .store0 rs1 rs2 imm => Sys2Proof.Machine.execStore0 rs1 rs2 imm s
  | .store1 rs1 rs2 imm => Sys2Proof.Machine.execStore1 rs1 rs2 imm s
  | .store2 rs1 rs2 imm => Sys2Proof.Machine.execStore2 rs1 rs2 imm s
  | .store3 rs1 rs2 imm => Sys2Proof.Machine.execStore3 rs1 rs2 imm s
  | .store4 rs1 rs2 imm => Sys2Proof.Machine.execStore4 rs1 rs2 imm s
  | .store5 rs1 rs2 imm => Sys2Proof.Machine.execStore5 rs1 rs2 imm s
  | .store6 rs1 rs2 imm => Sys2Proof.Machine.execStore6 rs1 rs2 imm s
  | .store7 rs1 rs2 imm => Sys2Proof.Machine.execStore7 rs1 rs2 imm s
  | .miscMem rd rs1 funct3 imm => Sys2Proof.Machine.execMiscMem rd rs1 funct3 imm s
  | .auipc rd imm => Sys2Proof.Machine.execAuipc rd imm s
  | .lui rd imm => Sys2Proof.Machine.execLui rd imm s
  | .jalr rd rs1 funct3 imm => Sys2Proof.Machine.execJalr rd rs1 funct3 imm s
  | .jal rd imm => Sys2Proof.Machine.execJal rd imm s
  | .system rd rs1 funct3 imm => Sys2Proof.Machine.execSystem rd rs1 funct3 imm s
  | .opImm0 rd rs1 imm => Sys2Proof.Machine.execOpImm0 rd rs1 imm s
  | .opImm1 rd rs1 imm => Sys2Proof.Machine.execOpImm1 rd rs1 imm s
  | .opImm2 rd rs1 imm => Sys2Proof.Machine.execOpImm2 rd rs1 imm s
  | .opImm3 rd rs1 imm => Sys2Proof.Machine.execOpImm3 rd rs1 imm s
  | .opImm4 rd rs1 imm => Sys2Proof.Machine.execOpImm4 rd rs1 imm s
  | .opImm5 rd rs1 imm => Sys2Proof.Machine.execOpImm5 rd rs1 imm s
  | .opImm6 rd rs1 imm => Sys2Proof.Machine.execOpImm6 rd rs1 imm s
  | .opImm7 rd rs1 imm => Sys2Proof.Machine.execOpImm7 rd rs1 imm s
  | .op0z rd rs1 rs2 => Sys2Proof.Machine.execOp0z rd rs1 rs2 s
  | .op0nz rd rs1 rs2 funct7 => Sys2Proof.Machine.execOp0nz rd rs1 rs2 funct7 s
  | .op1 rd rs1 rs2 funct7 => Sys2Proof.Machine.execOp1 rd rs1 rs2 funct7 s
  | .op2 rd rs1 rs2 funct7 => Sys2Proof.Machine.execOp2 rd rs1 rs2 funct7 s
  | .op3 rd rs1 rs2 funct7 => Sys2Proof.Machine.execOp3 rd rs1 rs2 funct7 s
  | .op4 rd rs1 rs2 funct7 => Sys2Proof.Machine.execOp4 rd rs1 rs2 funct7 s
  | .op5z rd rs1 rs2 => Sys2Proof.Machine.execOp5z rd rs1 rs2 s
  | .op5nz rd rs1 rs2 funct7 => Sys2Proof.Machine.execOp5nz rd rs1 rs2 funct7 s
  | .op6 rd rs1 rs2 funct7 => Sys2Proof.Machine.execOp6 rd rs1 rs2 funct7 s
  | .op7 rd rs1 rs2 funct7 => Sys2Proof.Machine.execOp7 rd rs1 rs2 funct7 s
  | .branch0 rs1 rs2 imm => Sys2Proof.Machine.execBranch0 rs1 rs2 imm s
  | .branch1 rs1 rs2 imm => Sys2Proof.Machine.execBranch1 rs1 rs2 imm s
  | .branch4 rs1 rs2 imm => Sys2Proof.Machine.execBranch4 rs1 rs2 imm s
  | .branch5 rs1 rs2 imm => Sys2Proof.Machine.execBranch5 rs1 rs2 imm s
  | .branch6 rs1 rs2 imm => Sys2Proof.Machine.execBranch6 rs1 rs2 imm s
  | .branch7 rs1 rs2 imm => Sys2Proof.Machine.execBranch7 rs1 rs2 imm s
  | .branch2 rs1 rs2 imm => Sys2Proof.Machine.execBranch2 rs1 rs2 imm s
  | .branch3 rs1 rs2 imm => Sys2Proof.Machine.execBranch3 rs1 rs2 imm s

end Sys2Proof.Machine
end

