-- ==== Sys2Proof/Machine/DecodeOp.lean ====
section
/-!
DEFINITION. The block's one operation, `decode`, in SIM101's nine steps (rule R130), over any tables and either setting of
`OPIMM_F7_KEY`. The 48 meanings state the same thing class by class (files 41 to 44); that the two agree is a statement.
-/

namespace Sys2Proof.Machine

/-- Steps 2 to 9, on a word of 32 bits (rules R132 to R139). -/
def decodeWith (T : Tables) (key : OpimmF7Key) (w : Word) : DecodeResult :=
  let opcode := opcodeField w
  match formatAt T opcode, majorOf T opcode with
  | some format, some major =>
    let funct3 := funct3Of format w
    let funct7 := funct7Of format w
    match lookupMicroOp T major funct3 (funct7Key key funct7 w) with
    | none => .err (.unsupportedOpcode (.noMicroOp major funct3 funct7))
    | some microOp =>
      .ok { format := format, opcode := opcode
            rd := rdOf format w, rs1 := rs1Of format w, rs2 := rs2Of format w
            immediate := immediateOf format w, funct3 := funct3, funct7 := funct7
            majorOperation := major, executionUnit := executionUnit major, microOp := microOp }
  | _, _ => .err (.unsupportedOpcode (.unknownOpcode opcode))

/-- `decode` with the spec's default tables. -/
def decode (key : OpimmF7Key) (w : Word) : DecodeResult := decodeWith defaultTables key w

/-- The word a bit string spells, most significant bit first (rules R5, R130 step 1); none unless it is 32 bits long. -/
def wordOfBits (bits : List Bool) : Option Word :=
  if bits.length = 32 then some (BitVec.ofNat 32 (bits.foldl (fun n b => 2 * n + b.toNat) 0)) else none

/-- `decode` of a bit string of any length: step 1, then the rest (rules R130, R131, R251). -/
def decodeBits (T : Tables) (key : OpimmF7Key) (bits : List Bool) : DecodeResult :=
  match wordOfBits bits with
  | none   => .err (.invalidInstruction bits.length)
  | some w => decodeWith T key w

end Sys2Proof.Machine
end

