-- ==== Sys2Proof/Machine/Text.lean ====
section
/-!
DEFINITION. How the loader reads one text line (rules R41 to R45, R60, R61, R63): classification, the header's payload, the
tokens of a data line, and the words they assemble to.
-/

namespace Sys2Proof.Machine

/-- White space: the space and the characters 9 to 13 (tab, line feed, vertical tab, form feed, carriage return), so that
the line terminator is trimmed with the rest. DESIGN CHOICE: the spec does not list the characters (rule R42, decision
D18, log entry 16). -/
def isBlank (c : Char) : Bool := c.toNat == 32 || (9 ≤ c.toNat && c.toNat ≤ 13)

/-- Without leading and trailing white space (rules R42, R43). -/
def trim (cs : List Char) : List Char := ((cs.dropWhile isBlank).reverse.dropWhile isBlank).reverse

/-- The maximal runs of characters that are not white space, after a run already begun (rule R44). -/
def splitTokens (begun : List Char) : List Char → List (List Char)
  | []      => if begun.isEmpty then [] else [begun]
  | c :: cs =>
    if isBlank c then
      if begun.isEmpty then splitTokens [] cs else begun :: splitTokens [] cs
    else splitTokens (begun ++ [c]) cs

/-- The whitespace-separated tokens of a line (rule R44). -/
def tokens (cs : List Char) : List (List Char) := splitTokens [] cs

/-- A decimal digit's value. -/
def decimalDigit (c : Char) : Option Nat := if 48 ≤ c.toNat && c.toNat ≤ 57 then some (c.toNat - 48) else none

/-- A hexadecimal digit's value, either case (rule R44, decision D17). -/
def hexDigit (c : Char) : Option Nat :=
  if 48 ≤ c.toNat && c.toNat ≤ 57 then some (c.toNat - 48)
  else if 97 ≤ c.toNat && c.toNat ≤ 102 then some (c.toNat - 87)
  else if 65 ≤ c.toNat && c.toNat ≤ 70 then some (c.toNat - 55)
  else none

/-- The digits read in base 10 after a value already read; none if one is no digit. -/
def decimalFrom (value : Nat) : List Char → Option Nat
  | []      => some value
  | c :: cs =>
    match decimalDigit c with
    | some d => decimalFrom (10 * value + d) cs
    | none   => none

/-- A header's payload: one or more decimal digits and nothing else (rule R43, decision D18). -/
def parseDecimal : List Char → Option Nat
  | []      => none
  | c :: cs => decimalFrom 0 (c :: cs)

/-- A token is valid when it is exactly two hexadecimal digits; its value is `16*hi + lo` (rule R44, conflict C7). -/
def parseByte : List Char → Option Byte
  | [hi, lo] =>
    match hexDigit hi, hexDigit lo with
    | some h, some l => some (BitVec.ofNat 8 (16 * h + l))
    | _, _           => none
  | _ => none

/-- Every token's byte, or the first token, from the left, that is not valid (rules R44, R63). -/
def parseBytes : List (List Char) → Except (List Char) (List Byte)
  | []      => .ok []
  | t :: ts =>
    match parseByte t with
    | none   => .error t
    | some b =>
      match parseBytes ts with
      | .ok bs   => .ok (b :: bs)
      | .error e => .error e

/-- Groups of four bytes, one word each (rule R45). -/
def groupWords : List Byte → List Word
  | b0 :: b1 :: b2 :: b3 :: rest => assemble b0 b1 b2 b3 :: groupWords rest
  | _ => []

/-- What a line says. -/
inductive LineMeaning where
  /-- Ignored (rule R61, `BLANK_LINE_POLICY = skip`). -/
  | skipped
  /-- A header with a valid payload (rule R43). -/
  | header (a : LoadAddress)
  /-- A valid data line and its words, left to right (rules R44, R45). -/
  | data (words : List Word)
  /-- The load fails. -/
  | bad (e : LoadError)
deriving DecidableEq, Repr

/-- A data line: the token count, then every token left to right, then the current address (rules R44, R49, R60, R63,
R258). -/
def scanData (current : Option LoadAddress) (lineNo : Nat) (line : List Char) : LineMeaning :=
  let ts := tokens line
  if ts.length = 0 ∨ ts.length % 4 ≠ 0 then .bad (.fileFormat lineNo (.tokenCount ts.length))
  else
    match parseBytes ts with
    | .error t => .bad (.fileFormat lineNo (.badToken t))
    | .ok bs   =>
      match current with
      | none   => .bad (.fileFormat lineNo .beforeHeader)
      | some _ => .data (groupWords bs)

/-- A header's payload, the text after `@` (rules R43, R257). -/
def scanHeader (lineNo : Nat) (afterAt : List Char) : LineMeaning :=
  match parseDecimal (trim afterAt) with
  | some a => .header a
  | none   => .bad (.addressParse lineNo (trim afterAt))

/-- One line: trimmed, then a header if it begins with `@`, else a data line; an empty one is skipped only under
`BLANK_LINE_POLICY = skip` (rules R42, R49, R61). -/
def scanLine (cfg : Config) (current : Option LoadAddress) (lineNo : Nat) (line : Line) : LineMeaning :=
  match trim line with
  | [] =>
    match cfg.blankLinePolicy with
    | .skip  => .skipped
    | .error => scanData current lineNo []
  | c :: cs => if c = '@' then scanHeader lineNo cs else scanData current lineNo (c :: cs)

end Sys2Proof.Machine
end

