-- ==== Sys2Proof/Machine/Loader.lean ====
section
/-!
DEFINITION. The loader and the caller's side, one action at a time: what happens when no word waits at the decoder's input
(rules R39, R46, R49).
-/

namespace Sys2Proof.Machine

/-- The loader reads one line, already counted in `lineNo` (rule R49). The words of a data line are put at the decoder's
input. -/
def readLine (line : Line) (s : State) : State :=
  match scanLine s.cfg s.loader.current s.lineNo line with
  | .skipped  => s
  | .header a => { s with loader := s.loader.select a }
  | .data ws  => { s with words := ws }
  | .bad e    => s.abort e

/-- A load is running and no word waits: the next line is read, or the load is over (rule R49). -/
def continueLoad (s : State) : State :=
  match s.lines with
  | []         => s.finish
  | line :: ls => readLine line { s with lines := ls, lineNo := s.lineNo + 1 }

/-- A `load` begins in the loader's initial state (rules R49, R282). -/
def beginLoad (lines : List Line) (s : State) : State :=
  { s with loading := true, lines := lines, lineNo := 0, loader := Loader.initial }

/-- A `decode` call: a string that is not 32 bits long fails at step 1; any other is put at the decoder's input (rules
R14, R131). -/
def beginDecode (bits : List Bool) (s : State) : State :=
  match wordOfBits bits with
  | none   => s.reply (.decoded (.err (.invalidInstruction bits.length)))
  | some w => { s with words := [w] }

/-- No load is running: the oldest call is taken; with no call nothing happens (rule R39; log entries 6, 11). -/
def takeCall (s : State) : State :=
  match s.calls with
  | []                 => s
  | .decode bits :: cs => beginDecode bits { s with calls := cs }
  | .load lines :: cs  => beginLoad lines { s with calls := cs }

/-- What the machine does when no word waits at the decoder's input. -/
def advance (s : State) : State := if s.loading then continueLoad s else takeCall s

end Sys2Proof.Machine
end

