-- ==== Sys2Proof/Machine/Step.lean ====
section
/-!
DEFINITION. One step: a word waiting at the decoder's input leaves it and is decoded, its class run by `exec`, or
`UnsupportedOpcodeError` raised when it has none; with no word waiting, the loader or the caller's side acts (rules R46,
R49, R130; log entry 7).
-/

namespace Sys2Proof.Machine

/-- One step of the machine. -/
def step (s : State) : Host.Outcome State Fault Refusal :=
  match fetch s with
  | none => .next (advance s)
  | some (w, s') =>
    match decodeWord w with
    | .ok i    => exec i s'
    | .error _ => .next (rejectWord w s')

/-- The state in which the next step decodes the instruction whose bits are `w`: its word stands first at the decoder's
input, as a `decode` call or an assembled data line would put it there (rule R14; log entry 10). -/
def State.withFetchWord (s : State) (nbits w : Nat) : State := { s with words := tableWord nbits w :: s.words }

end Sys2Proof.Machine
end

