-- ==== Sys2Proof/Machine/Flags.lean ====
section
/-!
DEFINITION. There are no flags, condition codes or predicates (rule R34): no step of any operation writes or reads one, so
no flag computation stands here. The success or failure of a decode is a value returned (rule R27); what that value says
of its error kind (rule R250) is below.
-/

namespace Sys2Proof.Machine

/-- The kind of a decoder error: one kind for both causes of `UnsupportedOpcodeError` (rule R253). -/
def DecodeError.kind : DecodeError → ErrorKind
  | .invalidInstruction _ => .invalidInstruction
  | .unsupportedOpcode _  => .unsupportedOpcode

/-- The kind of an error that aborts a load; a decoder error keeps its kind (rules R250, R259). -/
def LoadError.kind : LoadError → ErrorKind
  | .fileFormat _ _      => .fileFormat
  | .addressParse _ _    => .addressParse
  | .decoder e _ _ _ _   => e.kind

/-- The kind of a diagnostic (rules R250, R262). -/
def Diagnostic.kind : Diagnostic → ErrorKind
  | .duplicateAddress _ => .duplicateAddress

/-- Whether a kind aborts the load it is raised in (rule R250, last column). -/
def ErrorKind.aborts : ErrorKind → Bool
  | .invalidInstruction | .unsupportedOpcode | .fileFormat | .addressParse => true
  | .duplicateAddress => false

end Sys2Proof.Machine
end

