-- ==== Sys2Proof/Machine/LoadOp.lean ====
section
/-!
DEFINITION. The load operation as a whole, as rule R49 writes it: a function of the lines and the settings. That the
machine's steps answer a `load` call with exactly this result is a statement. With it, the stream of words a text holds
(rules R48, R56) and the command line's contract (rule R266).
-/

namespace Sys2Proof.Machine

/-- Rule R46 for one word. -/
def loadWord (cfg : Config) (l : Loader) (lineNo : Nat) (w : Word) : Except LoadError Loader :=
  match l.current with
  | none   => .error (.fileFormat lineNo .beforeHeader)
  | some a =>
    match decode cfg.opimmF7Key w with
    | .ok ins => .ok (l.append a ins)
    | .err e  => .error (annotate cfg l a w e)

/-- Rule R46 for the words of a line, left to right; the first error ends it. -/
def loadWords (cfg : Config) (l : Loader) (lineNo : Nat) : List Word → Except LoadError Loader
  | []      => .ok l
  | w :: ws =>
    match loadWord cfg l lineNo w with
    | .ok l'   => loadWords cfg l' lineNo ws
    | .error e => .error e

/-- The body of rule R49's outer loop, for one line. -/
def loadLine (cfg : Config) (l : Loader) (lineNo : Nat) (line : Line) : Except LoadError Loader :=
  match scanLine cfg l.current lineNo line with
  | .skipped  => .ok l
  | .header a => .ok (l.select a)
  | .data ws  => loadWords cfg l lineNo ws
  | .bad e    => .error e

/-- The outer loop, after `lineNo` lines; the first aborting error ends the load (rule R258). -/
def loadFrom (cfg : Config) (l : Loader) (lineNo : Nat) : List Line → LoadResult
  | []         => .ok l.image l.diags
  | line :: ls =>
    match loadLine cfg l (lineNo + 1) line with
    | .ok l'   => loadFrom cfg l' (lineNo + 1) ls
    | .error e => .err e

/-- `load(lines)` (rule R49). -/
def load (cfg : Config) (lines : List Line) : LoadResult := loadFrom cfg Loader.initial 0 lines

/-- The words of a text in the order met, each with the address current where it stands (rules R48, R56). -/
def wordStream (cfg : Config) (current : Option LoadAddress) (lineNo : Nat) : List Line → List (LoadAddress × Word)
  | []         => []
  | line :: ls =>
    match scanLine cfg current (lineNo + 1) line, current with
    | .header a, _      => wordStream cfg (some a) (lineNo + 1) ls
    | .data ws, some a  => ws.map (fun w => (a, w)) ++ wordStream cfg current (lineNo + 1) ls
    | _, _              => wordStream cfg current (lineNo + 1) ls

/-- The addresses of a text's headers, in order. -/
def headerAddresses (cfg : Config) (current : Option LoadAddress) (lineNo : Nat) : List Line → List LoadAddress
  | []         => []
  | line :: ls =>
    match scanLine cfg current (lineNo + 1) line with
    | .header a => a :: headerAddresses cfg (some a) (lineNo + 1) ls
    | _         => headerAddresses cfg current (lineNo + 1) ls

/-- The elements not met before, in order (rule R30: keys stand in the order of first appearance). -/
def firstAppearances (seen : List LoadAddress) : List LoadAddress → List LoadAddress
  | []      => []
  | a :: as => if a ∈ seen then firstAppearances seen as else a :: firstAppearances (seen ++ [a]) as

/-- The elements met before, in order (rule R262: one diagnostic for each). -/
def repeats (seen : List LoadAddress) : List LoadAddress → List LoadAddress
  | []      => []
  | a :: as => if a ∈ seen then a :: repeats seen as else repeats (seen ++ [a]) as

/-- How the command line ends (rule R266; log entry 28). -/
inductive CommandLineEnd where
  /-- The image is handed to the execution engine. -/
  | handOff (image : MemoryImage)
  /-- A non-zero status, whose value the spec does not give, and a message naming the address and the byte offset, where
  the error has them, and the kind. -/
  | failed (kind : ErrorKind) (address : Option LoadAddress) (byteOffset : Option Nat)
deriving DecidableEq, Repr

/-- The command line's end after a load (rule R266). DESIGN CHOICE: R266 says only "address/offset", and a decoder error
carries the index and the byte offset (rule R259, conflict C4, which calls the index primary); the message names the byte
offset and not the index (log entry 28). -/
def commandLineEnd : LoadResult → CommandLineEnd
  | .ok image _                  => .handOff image
  | .err (.decoder e a _ bo _)   => .failed e.kind (some a) (some bo)
  | .err e                       => .failed e.kind none none

end Sys2Proof.Machine
end

