-- ==== Sys2Proof/Safety.lean ====
section
/-!
DEFINITION. What a good state is, in the terms the statements use: the parts of the invariant that every step keeps
(`State.Inv`), and what it means that an Instruction is fully resolved (rules R25, R26, R142).
-/

namespace Sys2Proof.Machine

/-- The presence table of rule R26, as one truth value per optional field: rd, rs1, rs2, immediate, funct3, funct7. -/
def fieldPresence : InstrFormat → List Bool
  | .R => [true,  true,  true,  false, true,  true]
  | .I => [true,  true,  false, true,  true,  false]
  | .S => [false, true,  true,  true,  true,  false]
  | .B => [false, true,  true,  true,  true,  false]
  | .U => [true,  false, false, true,  false, false]
  | .J => [true,  false, false, true,  false, false]

/-- Which optional fields a record holds, in the same order. -/
def Instruction.presence (i : Instruction) : List Bool :=
  [i.rd.isSome, i.rs1.isSome, i.rs2.isSome, i.immediate.isSome, i.funct3.isSome, i.funct7.isSome]

/-- The record is what `decode` yields for some word (rules R25, R142: fully valid or not constructed). -/
def Instruction.Decoded (key : OpimmF7Key) (i : Instruction) : Prop := ∃ w, decode key w = .ok i

/-- Every instruction of the image is decoded, and no key stands twice (rules R25, R30, R31). -/
def Memory.Good (key : OpimmF7Key) (m : MemoryImage) : Prop :=
  Memory.wf m ∧ ∀ p ∈ m, ∀ i ∈ p.2, Instruction.Decoded key i

/-- The loader's own invariant: a good image, a current address that is a key, and diagnostics about keys (rules R33, R43,
R47, R262). -/
def Loader.Good (key : OpimmF7Key) (l : Loader) : Prop :=
  Memory.Good key l.image ∧
  (∀ a, l.current = some a → a ∈ Memory.keys l.image) ∧
  (∀ a, Diagnostic.duplicateAddress a ∈ l.diags → a ∈ Memory.keys l.image)

/-- A reply holds nothing partial: a decoded Instruction is fully resolved, a returned image is good (rules R27, R255,
R260). -/
def Reply.Good (key : OpimmF7Key) : Reply → Prop
  | .decoded (.ok i)          => Instruction.Decoded key i
  | .decoded (.err _)         => True
  | .loaded (.ok image diags) => Loader.Good key { image := image, current := none, diags := diags }
  | .loaded (.err _)          => True

/-- With no load running the loader is in its initial state (rules R261, R282). -/
def State.Idle (s : State) : Prop := s.lines = [] ∧ s.lineNo = 0 ∧ s.loader = Loader.initial

/-- The invariant of the machine. -/
structure State.Inv (s : State) : Prop where
  loader  : Loader.Good s.cfg.opimmF7Key s.loader
  replies : ∀ r ∈ s.replies, Reply.Good s.cfg.opimmF7Key r
  idle    : s.loading = false → State.Idle s
  /-- A word of a data line waits only when a header has been seen (rule R60). -/
  current : s.loading = true → s.words ≠ [] → s.loader.current ≠ none

end Sys2Proof.Machine
end

