-- ==== Sys2Proof/Certificates/Slice0/Obligations.lean ====
section
/-!
DEFINITION. The statements. Above them, the words they are written in: records laid out by format with every field in
sight, and what it is for an instruction class to complete with a record or to raise an error.
-/

namespace Sys2Proof.Machine

/-- An R-format result (rules R82, R88, R89). -/
def shapeR (opcode : Opcode) (m : MajorOperation) (eu : ExecutionUnit) (u : MicroOp)
    (rd rs1 rs2 : RegIndex) (f3 : Funct3) (f7 : Funct7) : Instruction :=
  { format := .R, opcode := opcode, rd := some rd, rs1 := some rs1, rs2 := some rs2, immediate := none
    funct3 := some f3, funct7 := some f7, majorOperation := m, executionUnit := eu, microOp := u }

/-- An I-format result (rules R83, R88 to R90). -/
def shapeI (opcode : Opcode) (m : MajorOperation) (eu : ExecutionUnit) (u : MicroOp)
    (rd rs1 : RegIndex) (f3 : Funct3) (imm : BitVec 12) : Instruction :=
  { format := .I, opcode := opcode, rd := some rd, rs1 := some rs1, rs2 := none, immediate := some (imm.signExtend 32)
    funct3 := some f3, funct7 := none, majorOperation := m, executionUnit := eu, microOp := u }

/-- An S-format result (rules R84, R88, R89, R91). -/
def shapeS (opcode : Opcode) (m : MajorOperation) (eu : ExecutionUnit) (u : MicroOp)
    (rs1 rs2 : RegIndex) (f3 : Funct3) (imm : BitVec 12) : Instruction :=
  { format := .S, opcode := opcode, rd := none, rs1 := some rs1, rs2 := some rs2, immediate := some (imm.signExtend 32)
    funct3 := some f3, funct7 := none, majorOperation := m, executionUnit := eu, microOp := u }

/-- A B-format result (rules R85, R88, R89, R92). -/
def shapeB (opcode : Opcode) (m : MajorOperation) (eu : ExecutionUnit) (u : MicroOp)
    (rs1 rs2 : RegIndex) (f3 : Funct3) (imm : BitVec 13) : Instruction :=
  { format := .B, opcode := opcode, rd := none, rs1 := some rs1, rs2 := some rs2, immediate := some (imm.signExtend 32)
    funct3 := some f3, funct7 := none, majorOperation := m, executionUnit := eu, microOp := u }

/-- A U-format result (rules R86, R88, R93). -/
def shapeU (opcode : Opcode) (m : MajorOperation) (eu : ExecutionUnit) (u : MicroOp)
    (rd : RegIndex) (imm : BitVec 32) : Instruction :=
  { format := .U, opcode := opcode, rd := some rd, rs1 := none, rs2 := none, immediate := some imm
    funct3 := none, funct7 := none, majorOperation := m, executionUnit := eu, microOp := u }

/-- A J-format result (rules R87, R88, R94). -/
def shapeJ (opcode : Opcode) (m : MajorOperation) (eu : ExecutionUnit) (u : MicroOp)
    (rd : RegIndex) (imm : BitVec 21) : Instruction :=
  { format := .J, opcode := opcode, rd := some rd, rs1 := none, rs2 := none, immediate := some (imm.signExtend 32)
    funct3 := none, funct7 := none, majorOperation := m, executionUnit := eu, microOp := u }

/-- `decode` yields the I-format result of a word's own fields. -/
def DecodesI (key : OpimmF7Key) (w : Word) (opcode : Opcode) (m : MajorOperation) (eu : ExecutionUnit) (u : MicroOp) :
    Prop :=
  decode key w = .ok (shapeI opcode m eu u (w.extractLsb' 7 5) (w.extractLsb' 15 5) (w.extractLsb' 12 3)
    (w.extractLsb' 20 12))

/-- `decode` yields the S-format result of a word's own fields. -/
def DecodesS (key : OpimmF7Key) (w : Word) (opcode : Opcode) (m : MajorOperation) (eu : ExecutionUnit) (u : MicroOp) :
    Prop :=
  decode key w = .ok (shapeS opcode m eu u (w.extractLsb' 15 5) (w.extractLsb' 20 5) (w.extractLsb' 12 3)
    (cat 12 (w.extractLsb' 25 7) (w.extractLsb' 7 5)))

/-- `decode` yields the R-format result of a word's own fields. -/
def DecodesR (key : OpimmF7Key) (w : Word) (opcode : Opcode) (m : MajorOperation) (eu : ExecutionUnit) (u : MicroOp) :
    Prop :=
  decode key w = .ok (shapeR opcode m eu u (w.extractLsb' 7 5) (w.extractLsb' 15 5) (w.extractLsb' 20 5)
    (w.extractLsb' 12 3) (w.extractLsb' 25 7))

/-- `decode` yields the B-format result of a word's own fields. -/
def DecodesB (key : OpimmF7Key) (w : Word) (opcode : Opcode) (m : MajorOperation) (eu : ExecutionUnit) (u : MicroOp) :
    Prop :=
  decode key w = .ok (shapeB opcode m eu u (w.extractLsb' 15 5) (w.extractLsb' 20 5) (w.extractLsb' 12 3)
    (cat 13 (cat 12 (cat 8 (cat 2 (w.extractLsb' 31 1) (w.extractLsb' 7 1)) (w.extractLsb' 25 6)) (w.extractLsb' 8 4)) 0#1))

/-- `decode` yields the U-format result of a word's own fields. -/
def DecodesU (key : OpimmF7Key) (w : Word) (opcode : Opcode) (m : MajorOperation) (eu : ExecutionUnit) (u : MicroOp) :
    Prop :=
  decode key w = .ok (shapeU opcode m eu u (w.extractLsb' 7 5) (cat 32 (w.extractLsb' 12 20) 0#12))

/-- `decode` yields the J-format result of a word's own fields. -/
def DecodesJ (key : OpimmF7Key) (w : Word) (opcode : Opcode) (m : MajorOperation) (eu : ExecutionUnit) (u : MicroOp) :
    Prop :=
  decode key w = .ok (shapeJ opcode m eu u (w.extractLsb' 7 5)
    (cat 21 (cat 20 (cat 10 (cat 9 (w.extractLsb' 31 1) (w.extractLsb' 12 8)) (w.extractLsb' 20 1)) (w.extractLsb' 21 10))
      0#1))

/-- `decode` raises `UnsupportedOpcodeError` at step 9, in a format without funct7. -/
def FailsAtStep9 (key : OpimmF7Key) (w : Word) (m : MajorOperation) : Prop :=
  decode key w = .err (.unsupportedOpcode (.noMicroOp m (some (w.extractLsb' 12 3)) none))

/-- In every state the class runs to a next state that holds the record: one more reply when the caller asked, one more
instruction in the current segment when a load runs; every other field is as it was. -/
def CompletesWith (i : Instr) (r : Config → Instruction) : Prop :=
  ∀ s : State,
    (s.loading = false → exec i s = .next { s with replies := s.replies ++ [.decoded (.ok (r s.cfg))] }) ∧
    (∀ a, s.loading = true → s.loader.current = some a →
      exec i s = .next { s with loader := { s.loader with image := Memory.append s.loader.image a (r s.cfg) } })

/-- The state after a load that an error ended: the error alone is returned and the loader instance is gone. -/
def afterAbort (s : State) (e : LoadError) : State :=
  { cfg := s.cfg, calls := s.calls, replies := s.replies ++ [.loaded (.err e)], loading := false, lines := [],
    lineNo := 0, words := [], loader := { image := [], current := none, diags := [] } }

/-- In every state the class runs to a next state that holds the error: returned when the caller asked, annotated and
ending the load when a load runs. -/
def RaisesWith (i : Instr) (e : DecodeError) : Prop :=
  ∀ s : State,
    (s.loading = false → exec i s = .next { s with replies := s.replies ++ [.decoded (.err e)] }) ∧
    (∀ a, s.loading = true → s.loader.current = some a →
      exec i s = .next (afterAbort s (.decoder e a (Memory.segment s.loader.image a).length
        (s.cfg.addrStride * (Memory.segment s.loader.image a).length) (encode i))))

/-- The funct3 values with no micro-op entry (rule R100's table). -/
def absentFunct3 : MajorOperation → List Funct3
  | .load   => [3, 6, 7]
  | .store  => [3, 4, 5, 6, 7]
  | .branch => [2, 3]
  | .miscMem | .auipc | .lui | .jalr | .jal | .system | .opImm | .op => []

/-- Rule R139's function, written as the rule writes it. -/
def rule139 (m : MajorOperation) (f3 : Funct3) (key7 : Funct7) : Option MicroOp :=
  match m with
  | .load =>
    if f3 = 0 then some 1 else if f3 = 1 then some 2 else if f3 = 2 then some 3
    else if f3 = 4 then some 5 else if f3 = 5 then some 6 else none
  | .store => if f3 = 0 then some 9 else if f3 = 1 then some 10 else if f3 = 2 then some 12 else none
  | .miscMem => some 0
  | .auipc => some 0
  | .lui => some 9
  | .jalr => some 0
  | .jal => some 8
  | .system => some 9
  | .opImm | .op =>
    if f3 = 0 then (if key7 = 0 then some 0 else some 1)
    else if f3 = 1 then some 15 else if f3 = 2 then some 10 else if f3 = 3 then some 11
    else if f3 = 4 then some 4 else if f3 = 5 then (if key7 = 0 then some 14 else some 13)
    else if f3 = 6 then some 2 else some 3
  | .branch =>
    if f3 = 0 then some 0 else if f3 = 1 then some 1 else if f3 = 4 then some 2
    else if f3 = 5 then some 3 else if f3 = 6 then some 6 else if f3 = 7 then some 7 else none

/-- What `decode` decides about a word, apart from the fields it merely reports. -/
def DecodeResult.decision : DecodeResult → Option (InstrFormat × MajorOperation × ExecutionUnit × MicroOp)
  | .ok i  => some (i.format, i.majorOperation, i.executionUnit, i.microOp)
  | .err _ => none

/-- A bit string spells a word: it is 32 characters long and character `k`, from the left, is bit `31 - k` (rule R5). -/
def Spells (bits : List Bool) (w : Word) : Prop :=
  bits.length = 32 ∧ ∀ k, k < 32 → bits[k]? = some (w.getLsbD (31 - k))

/-- A hexadecimal digit and its value: `0` to `9`, or `a` to `f` or `A` to `F` for 10 to 15 (rule R44, decision D17). -/
def HexDigitIs (c : Char) (v : Nat) : Prop :=
  (v ≤ 9 ∧ c.toNat = '0'.toNat + v) ∨
  (10 ≤ v ∧ v ≤ 15 ∧ (c.toNat + 10 = 'a'.toNat + v ∨ c.toNat + 10 = 'A'.toNat + v))

/-- Every character is white space. -/
def AllBlank (cs : List Char) : Prop := ∀ c ∈ cs, isBlank c = true

/-- No character is white space. -/
def NoneBlank (cs : List Char) : Prop := ∀ c ∈ cs, isBlank c = false

/-- Two words agree on the bits that rule R102 says are tested: the opcode; funct3 but for MISC-MEM, AUIPC, LUI, JALR,
JAL and SYSTEM; and for OP with funct3 0 or 5 whether funct7 is zero. -/
def AgreeOnTestedBits (w v : Word) : Prop :=
  w.extractLsb' 0 7 = v.extractLsb' 0 7 ∧
  (w.extractLsb' 0 7 ∉ [0b0001111#7, 0b0010111#7, 0b0110111#7, 0b1100111#7, 0b1101111#7, 0b1110011#7] →
    w.extractLsb' 12 3 = v.extractLsb' 12 3) ∧
  (w.extractLsb' 0 7 = 0b0110011#7 → (w.extractLsb' 12 3 = 0 ∨ w.extractLsb' 12 3 = 5) →
    (w.extractLsb' 25 7 = 0 ↔ v.extractLsb' 25 7 = 0))

end Sys2Proof.Machine

open Sys2Proof Sys2Proof.Machine

/-! ### Encoding -/

/-- Decoding an encoded well-formed instruction of any class gives it back, with every operand (30_encoding.md sections 3
and 4). -/
def Obligations.DecodeOfEncodeGivesTheInstruction : Prop :=
  ∀ i : Instr, i.wellFormed = true → decodeWord (encode i) = .ok i

/-- Encoding what was decoded gives the word back: no bit of a word is dropped, and what the decoder yields is well-formed
(30_encoding.md sections 3 and 4). -/
def Obligations.EncodeOfDecodeGivesTheWord : Prop :=
  ∀ (w : Word) (i : Instr), decodeWord w = .ok i → encode i = w ∧ i.wellFormed = true

/-- The same through the four bytes of the HEX image and whatever follows them (R45, R50). -/
def Obligations.BytesOfAnInstructionDecodeToIt : Prop :=
  ∀ (i : Instr) (rest : List Byte), i.wellFormed = true →
    decodeBytes (bytesOf (encode i) ++ rest) = .ok (i, rest)

/-- The class of a word is the FIRST row of the opcode table that it fits, and a word with no class fits none (R103).
The table's opcode values are log entry 1. -/
def Obligations.ClassIsTheFirstFittingRow : Prop :=
  ∀ w : Word,
    (rowOf w).map (·.mnemonic) =
      match decodeWord w with
      | .ok i    => some i.mnemonic
      | .error _ => none

/-- The first fitting row holds the decode result under the default key: format, major operation, unit and micro-op on
an instruction row, the error on an error row, and an unknown opcode where no row fits (R103). The table's opcode
values and formats are log entries 1 and 2. -/
def Obligations.FirstFittingRowHoldsTheDecodeResult : Prop :=
  ∀ w : Word,
    match rowOf w with
    | none => decode .absentAsZero w = .err (.unsupportedOpcode (.unknownOpcode (w.extractLsb' 0 7)))
    | some r =>
      match r.result with
      | none         => FailsAtStep9 .absentAsZero w r.major
      | some (eu, u) => (decode .absentAsZero w).decision = some (r.format, r.major, eu, u)

/-- One word of every major operation, written out from the layouts of 30_encoding.md (the words are the spec's own examples).
Opcode values: log entry 1. -/
def Obligations.WordsWrittenFromTheLayoutsDecode : Prop :=
  decodeWord 0xFFF30283#32 = .ok (.load0 5 6 0xFFF) ∧
  decodeWord 0xFE530FA3#32 = .ok (.store0 6 5 0xFFF) ∧
  decodeWord 0x0FF0000F#32 = .ok (.miscMem 0 0 0 0x0FF) ∧
  decodeWord 0x12345297#32 = .ok (.auipc 5 0x12345000) ∧
  decodeWord 0xFFFFF537#32 = .ok (.lui 10 0xFFFFF000) ∧
  decodeWord 0x0102B0E7#32 = .ok (.jalr 1 5 3 16) ∧
  decodeWord 0x0010006F#32 = .ok (.jal 0 2048) ∧
  decodeWord 0x30529073#32 = .ok (.system 0 5 1 773) ∧
  decodeWord 0x00500513#32 = .ok (.opImm0 10 0 5) ∧
  decodeWord 0x40C58533#32 = .ok (.op0nz 10 11 12 32) ∧
  decodeWord 0x0062E0E3#32 = .ok (.branch6 5 6 2048) ∧
  decodeWord 0xFFFFFFFF#32 = .error (.unknownOpcode 127)

/-- Word assembly (R45): each token's byte at its place, the value of the word, the groups of a line, the example. -/
def Obligations.WordsAreAssembledLittleEndian : Prop :=
  (∀ b0 b1 b2 b3 : Byte,
    (assemble b0 b1 b2 b3).extractLsb' 24 8 = b3 ∧ (assemble b0 b1 b2 b3).extractLsb' 16 8 = b2 ∧
    (assemble b0 b1 b2 b3).extractLsb' 8 8 = b1 ∧ (assemble b0 b1 b2 b3).extractLsb' 0 8 = b0 ∧
    (assemble b0 b1 b2 b3).toNat =
      b0.toNat + 256 * b1.toNat + 65536 * b2.toNat + 16777216 * b3.toNat) ∧
  (∀ (b0 b1 b2 b3 : Byte) (rest : List Byte),
    groupWords (b0 :: b1 :: b2 :: b3 :: rest) = assemble b0 b1 b2 b3 :: groupWords rest) ∧
  groupWords [0x13, 0x05, 0x50, 0x00] = [0x00500513#32]

/-! ### The decode operation, over any tables where the rule allows it -/

/-- A bit string that is not 32 bits long fails with InvalidInstructionError whatever its bits, and that is the only
cause of the error (R131). The attached length is log entry 19. -/
def Obligations.OnlyWrongLengthIsInvalidInstruction : Prop :=
  ∀ (T : Tables) (key : OpimmF7Key) (bits : List Bool),
    (bits.length ≠ 32 → decodeBits T key bits = .err (.invalidInstruction bits.length)) ∧
    (∀ n, decodeBits T key bits = .err (.invalidInstruction n) → bits.length ≠ 32)

/-- An opcode outside the known table fails with UnsupportedOpcodeError carrying the opcode, for any tables; with the
default tables 117 opcodes are outside, every word with `w[1:0] ≠ 11`, the all-zero and the all-one word among theirs
(R99, R252). The default opcode values, which the counts and the last three clauses rest on, are log entry 1; the
payload is decision D9, log entry 19. -/
def Obligations.UnknownOpcodeIsUnsupported : Prop :=
  (∀ (T : Tables) (key : OpimmF7Key) (w : Word),
    (∀ m, T.opcode m ≠ w.extractLsb' 0 7) ↔
      decodeWith T key w = .err (.unsupportedOpcode (.unknownOpcode (w.extractLsb' 0 7)))) ∧
  (∀ (key : OpimmF7Key) (w : Word), w.extractLsb' 0 2 ≠ 3 →
    decode key w = .err (.unsupportedOpcode (.unknownOpcode (w.extractLsb' 0 7)))) ∧
  (List.range 128).countP (fun n => (majorOf defaultTables (BitVec.ofNat 7 n)).isNone) = 117 ∧
  (∀ key, decode key 0xFFFFFFFF#32 = .err (.unsupportedOpcode (.unknownOpcode 0b1111111))) ∧
  (∀ key, decode key 0x00000000#32 = .err (.unsupportedOpcode (.unknownOpcode 0b0000000)))

/-- With a known opcode a word decodes unless its funct3 is among the values of R100's table; then it fails at step 9
with the major operation and the fields, and no Instruction exists (R100, R253). The opcode values are log entry 1,
the payload log entry 19. -/
def Obligations.AbsentMicroOpIsUnsupported : Prop :=
  ∀ (key : OpimmF7Key) (w : Word) (m : MajorOperation), w.extractLsb' 0 7 = opcodeOf m →
    (w.extractLsb' 12 3 ∈ absentFunct3 m → FailsAtStep9 key w m) ∧
    (w.extractLsb' 12 3 ∉ absentFunct3 m → ∃ i, decode key w = .ok i)

/-- Of the 128 × 8 × 2 combinations of opcode, funct3 and funct7 zero or not, 156 decode (95_test_vectors.md V7, the
counting check of R144). It rests on the default opcode values, log entry 1. -/
def Obligations.CountOfDecodableCombinations : Prop :=
  ((List.range 128).map (fun o => ((List.range 8).map (fun f => ([0, 1] : List Nat).countP (fun z =>
    (decode .absentAsZero (BitVec.ofNat 32 (o + 4096 * f + 33554432 * z))).decision.isSome))).sum)).sum = 156

/-- Register and funct fields of every successful decode, whatever the tables (R88, R89). -/
def Obligations.RegisterAndFunctFieldsByFormat : Prop :=
  ∀ (T : Tables) (key : OpimmF7Key) (w : Word) (i : Instruction), decodeWith T key w = .ok i →
    i.opcode = w.extractLsb' 0 7 ∧
    i.rd = (if i.format ∈ [InstrFormat.R, .I, .U, .J] then some (w.extractLsb' 7 5) else none) ∧
    i.rs1 = (if i.format ∈ [InstrFormat.R, .I, .S, .B] then some (w.extractLsb' 15 5) else none) ∧
    i.rs2 = (if i.format ∈ [InstrFormat.R, .S, .B] then some (w.extractLsb' 20 5) else none) ∧
    i.funct3 = (if i.format ∈ [InstrFormat.R, .I, .S, .B] then some (w.extractLsb' 12 3) else none) ∧
    i.funct7 = (if i.format = InstrFormat.R then some (w.extractLsb' 25 7) else none)

/-- On success every field of the format is present and every other absent, whatever the tables (R26). -/
def Obligations.FieldPresenceByFormat : Prop :=
  ∀ (T : Tables) (key : OpimmF7Key) (w : Word) (i : Instruction), decodeWith T key w = .ok i →
    i.presence = fieldPresence i.format

/-- The immediate of each format: the assembled field sign-extended, its range, the multiples it is confined to and its sign
bit (R90 to R94). -/
def Obligations.ImmediateByFormat : Prop :=
  ∀ (T : Tables) (key : OpimmF7Key) (w : Word) (i : Instruction), decodeWith T key w = .ok i →
    (i.format = .R → i.immediate = none) ∧
    (i.format = .I → ∃ v, i.immediate = some v ∧ v = (w.extractLsb' 20 12).signExtend 32 ∧
      -2048 ≤ v.toInt ∧ v.toInt ≤ 2047 ∧ (v.toInt < 0 ↔ w.getLsbD 31 = true)) ∧
    (i.format = .S → ∃ v, i.immediate = some v ∧
      v = (cat 12 (w.extractLsb' 25 7) (w.extractLsb' 7 5)).signExtend 32 ∧ -2048 ≤ v.toInt ∧ v.toInt ≤ 2047 ∧
      (v.toInt < 0 ↔ w.getLsbD 31 = true)) ∧
    (i.format = .B → ∃ v, i.immediate = some v ∧
      v = (cat 13 (cat 12 (cat 8 (cat 2 (w.extractLsb' 31 1) (w.extractLsb' 7 1)) (w.extractLsb' 25 6))
        (w.extractLsb' 8 4)) 0#1).signExtend 32 ∧
      -4096 ≤ v.toInt ∧ v.toInt ≤ 4094 ∧ v.toInt % 2 = 0 ∧ (v.toInt < 0 ↔ w.getLsbD 31 = true)) ∧
    (i.format = .U → ∃ v, i.immediate = some v ∧ v = cat 32 (w.extractLsb' 12 20) 0#12 ∧
      -2147483648 ≤ v.toInt ∧ v.toInt ≤ 2147479552 ∧ v.toInt % 4096 = 0 ∧ (v.toInt < 0 ↔ w.getLsbD 31 = true)) ∧
    (i.format = .J → ∃ v, i.immediate = some v ∧
      v = (cat 21 (cat 20 (cat 10 (cat 9 (w.extractLsb' 31 1) (w.extractLsb' 12 8)) (w.extractLsb' 20 1))
        (w.extractLsb' 21 10)) 0#1).signExtend 32 ∧
      -1048576 ≤ v.toInt ∧ v.toInt ≤ 1048574 ∧ v.toInt % 2 = 0 ∧ (v.toInt < 0 ↔ w.getLsbD 31 = true))

/-- The sign-extension law of R95, in the form the rule itself marks as derived from R90 to R94: the top bit of the
assembled field is bit 31 of the word in all five formats, so an immediate is negative exactly when that bit is 1. -/
def Obligations.ImmediateNegativeExactlyWhenBit31 : Prop :=
  ∀ (T : Tables) (key : OpimmF7Key) (w : Word) (i : Instruction) (v : Immediate), decodeWith T key w = .ok i →
    i.immediate = some v → (v.toInt < 0 ↔ w.getLsbD 31 = true) ∧ (w.getLsbD 31 = false → 0 ≤ v.toInt ∧ v.toInt < 2 ^ 31)

/-- The execution unit depends on the major operation alone (R138). -/
def Obligations.ExecutionUnitByMajorAlone : Prop :=
  ∀ (T : Tables) (key : OpimmF7Key) (w : Word) (i : Instruction), decodeWith T key w = .ok i →
    (i.majorOperation ∈ [MajorOperation.load, .store] → i.executionUnit = .LSU) ∧
    (i.majorOperation ∈ [MajorOperation.branch, .jal, .jalr] → i.executionUnit = .BRU) ∧
    (i.majorOperation ∈ [MajorOperation.opImm, .op, .auipc, .lui, .system, .miscMem] → i.executionUnit = .INT)

/-- The printed micro-op table, read as R140 says, is R139's function; where funct3 is absent only the rows that do
not consult it apply (R139). How the table is read is log entry 4. -/
def Obligations.PrintedMicroOpTableIsTheFunction : Prop :=
  ∀ (m : MajorOperation) (f3 : Funct3) (key7 : Funct7),
    lookupMicroOp defaultTables m (some f3) key7 = rule139 m f3 key7 ∧
    (m ∈ [MajorOperation.auipc, .lui, .jal] → lookupMicroOp defaultTables m none key7 = rule139 m f3 key7)

/-- The funct7 selector under both settings: OP-IMM funct3 0 and 5 take the "0" column always under `absent_as_zero` and
by `w[31:25]` under `word_31_25`; `funct7` is reported absent under both; no other word is affected (R141; the default is
decision D4, log entry 3). -/
def Obligations.OpimmKeySelectsTheColumn : Prop :=
  (∀ (w : Word) (f : Funct7), funct7Key .absentAsZero (some f) w = f ∧ funct7Key .word31_25 (some f) w = f ∧
    funct7Key .absentAsZero none w = 0 ∧ funct7Key .word31_25 none w = w.extractLsb' 25 7) ∧
  ∀ w : Word,
    (w.extractLsb' 0 7 = 0b0010011#7 → w.extractLsb' 12 3 = 0 →
      DecodesI .absentAsZero w 0b0010011 .opImm .INT 0 ∧
      DecodesI .word31_25 w 0b0010011 .opImm .INT (if w.extractLsb' 25 7 = 0 then 0 else 1)) ∧
    (w.extractLsb' 0 7 = 0b0010011#7 → w.extractLsb' 12 3 = 5 →
      DecodesI .absentAsZero w 0b0010011 .opImm .INT 14 ∧
      DecodesI .word31_25 w 0b0010011 .opImm .INT (if w.extractLsb' 25 7 = 0 then 14 else 13)) ∧
    (¬ (w.extractLsb' 0 7 = 0b0010011#7 ∧ (w.extractLsb' 12 3 = 0 ∨ w.extractLsb' 12 3 = 5)) →
      decode .word31_25 w = decode .absentAsZero w)

/-- Success, format, major operation, unit and micro-op depend on the tested bits alone (R102, default parameters): a
word of the M extension decodes as the base word of its funct3 does, bar zero and non-zero funct7 (R218). Rests on log
entries 1 to 4. -/
def Obligations.DecisionDependsOnTestedBitsOnly : Prop :=
  ∀ w v : Word, AgreeOnTestedBits w v → (decode .absentAsZero w).decision = (decode .absentAsZero v).decision

/-! ### The classes, one rule each -/

/-- LOAD.0, .1, .2, .4 and .5 for every word, with the rules' examples (R160 to R164). The opcode value and the format
are the spec's defaults, log entries 1 and 2. -/
def Obligations.LoadClassResults : Prop :=
  (∀ (key : OpimmF7Key) (w : Word), w.extractLsb' 0 7 = 0b0000011#7 →
    (w.extractLsb' 12 3 = 0b000#3 → DecodesI key w 0b0000011 .load .LSU 1) ∧
    (w.extractLsb' 12 3 = 0b001#3 → DecodesI key w 0b0000011 .load .LSU 2) ∧
    (w.extractLsb' 12 3 = 0b010#3 → DecodesI key w 0b0000011 .load .LSU 3) ∧
    (w.extractLsb' 12 3 = 0b100#3 → DecodesI key w 0b0000011 .load .LSU 5) ∧
    (w.extractLsb' 12 3 = 0b101#3 → DecodesI key w 0b0000011 .load .LSU 6)) ∧
  (∀ key : OpimmF7Key,
    decode key 0xFFF30283#32 = .ok (shapeI 0b0000011 .load .LSU 1 5 6 0 (-1)) ∧
    decode key 0x00241383#32 = .ok (shapeI 0b0000011 .load .LSU 2 7 8 1 2) ∧
    decode key 0x00812503#32 = .ok (shapeI 0b0000011 .load .LSU 3 10 2 2 8) ∧
    decode key 0x7FF64583#32 = .ok (shapeI 0b0000011 .load .LSU 5 11 12 4 2047) ∧
    decode key 0x80075683#32 = .ok (shapeI 0b0000011 .load .LSU 6 13 14 5 (-2048)))

/-- STORE.0, .1 and .2 for every word, with the rules' examples (R166 to R168). The opcode value and the format are
the spec's defaults, log entries 1 and 2. -/
def Obligations.StoreClassResults : Prop :=
  (∀ (key : OpimmF7Key) (w : Word), w.extractLsb' 0 7 = 0b0100011#7 →
    (w.extractLsb' 12 3 = 0b000#3 → DecodesS key w 0b0100011 .store .LSU 9) ∧
    (w.extractLsb' 12 3 = 0b001#3 → DecodesS key w 0b0100011 .store .LSU 10) ∧
    (w.extractLsb' 12 3 = 0b010#3 → DecodesS key w 0b0100011 .store .LSU 12)) ∧
  (∀ key : OpimmF7Key,
    decode key 0xFE530FA3#32 = .ok (shapeS 0b0100011 .store .LSU 9 6 5 0 (-1)) ∧
    decode key 0x00741123#32 = .ok (shapeS 0b0100011 .store .LSU 10 8 7 1 2) ∧
    decode key 0x80A12023#32 = .ok (shapeS 0b0100011 .store .LSU 12 2 10 2 (-2048)) ∧
    decode key 0x7EA12FA3#32 = .ok (shapeS 0b0100011 .store .LSU 12 2 10 2 2047) ∧
    decode key 0x00A12423#32 = .ok (shapeS 0b0100011 .store .LSU 12 2 10 2 8))

/-- MISC-MEM, JALR and SYSTEM for every word, whatever its other bits, with the rules' examples (R170, R182, R184).
The opcode values and formats are the spec's defaults, log entries 1 and 2. -/
def Obligations.WholeOpcodeClassResults : Prop :=
  (∀ (key : OpimmF7Key) (w : Word),
    (w.extractLsb' 0 7 = 0b0001111#7 → DecodesI key w 0b0001111 .miscMem .INT 0) ∧
    (w.extractLsb' 0 7 = 0b1100111#7 → DecodesI key w 0b1100111 .jalr .BRU 0) ∧
    (w.extractLsb' 0 7 = 0b1110011#7 → DecodesI key w 0b1110011 .system .INT 9)) ∧
  (∀ key : OpimmF7Key,
    decode key 0x0FF0000F#32 = .ok (shapeI 0b0001111 .miscMem .INT 0 0 0 0 255) ∧
    decode key 0x0000100F#32 = .ok (shapeI 0b0001111 .miscMem .INT 0 0 0 1 0) ∧
    decode key 0xFFFFF00F#32 = .ok (shapeI 0b0001111 .miscMem .INT 0 0 31 7 (-1)) ∧
    decode key 0x00008067#32 = .ok (shapeI 0b1100111 .jalr .BRU 0 0 1 0 0) ∧
    decode key 0xFFC280E7#32 = .ok (shapeI 0b1100111 .jalr .BRU 0 1 5 0 (-4)) ∧
    decode key 0x0102B0E7#32 = .ok (shapeI 0b1100111 .jalr .BRU 0 1 5 3 16) ∧
    decode key 0x00000073#32 = .ok (shapeI 0b1110011 .system .INT 9 0 0 0 0) ∧
    decode key 0x00100073#32 = .ok (shapeI 0b1110011 .system .INT 9 0 0 0 1) ∧
    decode key 0x30200073#32 = .ok (shapeI 0b1110011 .system .INT 9 0 0 0 770) ∧
    decode key 0x30529073#32 = .ok (shapeI 0b1110011 .system .INT 9 0 5 1 773) ∧
    decode key 0xC0002573#32 = .ok (shapeI 0b1110011 .system .INT 9 10 0 2 (-1024)))

/-- AUIPC, LUI and JAL for every word, with the rules' examples (R180, R181, R183). The opcode values and formats are
the spec's defaults, log entries 1 and 2. -/
def Obligations.UpperAndJumpClassResults : Prop :=
  (∀ (key : OpimmF7Key) (w : Word),
    (w.extractLsb' 0 7 = 0b0010111#7 → DecodesU key w 0b0010111 .auipc .INT 0) ∧
    (w.extractLsb' 0 7 = 0b0110111#7 → DecodesU key w 0b0110111 .lui .INT 9) ∧
    (w.extractLsb' 0 7 = 0b1101111#7 → DecodesJ key w 0b1101111 .jal .BRU 8)) ∧
  (∀ key : OpimmF7Key,
    decode key 0x12345297#32 = .ok (shapeU 0b0010111 .auipc .INT 0 5 305418240) ∧
    decode key 0x80000297#32 = .ok (shapeU 0b0010111 .auipc .INT 0 5 (-2147483648)) ∧
    decode key 0xFFFFF537#32 = .ok (shapeU 0b0110111 .lui .INT 9 10 (-4096)) ∧
    decode key 0x00001537#32 = .ok (shapeU 0b0110111 .lui .INT 9 10 4096) ∧
    decode key 0x00000037#32 = .ok (shapeU 0b0110111 .lui .INT 9 0 0) ∧
    decode key 0x008000EF#32 = .ok (shapeJ 0b1101111 .jal .BRU 8 1 8) ∧
    decode key 0xFFDFF06F#32 = .ok (shapeJ 0b1101111 .jal .BRU 8 0 (-4)) ∧
    decode key 0x7FFFF0EF#32 = .ok (shapeJ 0b1101111 .jal .BRU 8 1 1048574) ∧
    decode key 0x800000EF#32 = .ok (shapeJ 0b1101111 .jal .BRU 8 1 (-1048576)) ∧
    decode key 0x0010006F#32 = .ok (shapeJ 0b1101111 .jal .BRU 8 0 2048) ∧
    decode key 0x0000006F#32 = .ok (shapeJ 0b1101111 .jal .BRU 8 0 0))

/-- OP-IMM.0 to .7 for every word, .0 and .5 under the default key and the others under either, with the rules' examples
and, for OP-IMM.5 alone, the example 0x40335293 under the alternative key as well (R200 to R207, R141). The results of
OP-IMM.0 and .5 and that example rest on decision D4, log entry 3. -/
def Obligations.OpImmClassResults : Prop :=
  (∀ (key : OpimmF7Key) (w : Word), w.extractLsb' 0 7 = 0b0010011#7 →
    (w.extractLsb' 12 3 = 0b000#3 → DecodesI .absentAsZero w 0b0010011 .opImm .INT 0) ∧
    (w.extractLsb' 12 3 = 0b001#3 → DecodesI key w 0b0010011 .opImm .INT 15) ∧
    (w.extractLsb' 12 3 = 0b010#3 → DecodesI key w 0b0010011 .opImm .INT 10) ∧
    (w.extractLsb' 12 3 = 0b011#3 → DecodesI key w 0b0010011 .opImm .INT 11) ∧
    (w.extractLsb' 12 3 = 0b100#3 → DecodesI key w 0b0010011 .opImm .INT 4) ∧
    (w.extractLsb' 12 3 = 0b101#3 → DecodesI .absentAsZero w 0b0010011 .opImm .INT 14) ∧
    (w.extractLsb' 12 3 = 0b110#3 → DecodesI key w 0b0010011 .opImm .INT 2) ∧
    (w.extractLsb' 12 3 = 0b111#3 → DecodesI key w 0b0010011 .opImm .INT 3)) ∧
  decode .absentAsZero 0x00500513#32 = .ok (shapeI 0b0010011 .opImm .INT 0 10 0 0 5) ∧
  decode .absentAsZero 0xFF010113#32 = .ok (shapeI 0b0010011 .opImm .INT 0 2 2 0 (-16)) ∧
  decode .absentAsZero 0x00000013#32 = .ok (shapeI 0b0010011 .opImm .INT 0 0 0 0 0) ∧
  (∀ key : OpimmF7Key,
    decode key 0x00331293#32 = .ok (shapeI 0b0010011 .opImm .INT 15 5 6 1 3) ∧
    decode key 0x7E331293#32 = .ok (shapeI 0b0010011 .opImm .INT 15 5 6 1 2019) ∧
    decode key 0xFFF32293#32 = .ok (shapeI 0b0010011 .opImm .INT 10 5 6 2 (-1)) ∧
    decode key 0x00133293#32 = .ok (shapeI 0b0010011 .opImm .INT 11 5 6 3 1) ∧
    decode key 0xFFF34293#32 = .ok (shapeI 0b0010011 .opImm .INT 4 5 6 4 (-1)) ∧
    decode key 0x0F036293#32 = .ok (shapeI 0b0010011 .opImm .INT 2 5 6 6 240) ∧
    decode key 0x7FF37293#32 = .ok (shapeI 0b0010011 .opImm .INT 3 5 6 7 2047)) ∧
  decode .absentAsZero 0x00335293#32 = .ok (shapeI 0b0010011 .opImm .INT 14 5 6 5 3) ∧
  decode .absentAsZero 0x40335293#32 = .ok (shapeI 0b0010011 .opImm .INT 14 5 6 5 1027) ∧
  decode .word31_25 0x40335293#32 = .ok (shapeI 0b0010011 .opImm .INT 13 5 6 5 1027)

/-- OP.0.z to OP.7 for every word and either key, with the rules' examples (R208 to R217). The opcode value and the
format are the spec's defaults, log entries 1 and 2. -/
def Obligations.OpClassResults : Prop :=
  (∀ (key : OpimmF7Key) (w : Word), w.extractLsb' 0 7 = 0b0110011#7 →
    (w.extractLsb' 12 3 = 0b000#3 → w.extractLsb' 25 7 = 0 → DecodesR key w 0b0110011 .op .INT 0) ∧
    (w.extractLsb' 12 3 = 0b000#3 → w.extractLsb' 25 7 ≠ 0 → DecodesR key w 0b0110011 .op .INT 1) ∧
    (w.extractLsb' 12 3 = 0b001#3 → DecodesR key w 0b0110011 .op .INT 15) ∧
    (w.extractLsb' 12 3 = 0b010#3 → DecodesR key w 0b0110011 .op .INT 10) ∧
    (w.extractLsb' 12 3 = 0b011#3 → DecodesR key w 0b0110011 .op .INT 11) ∧
    (w.extractLsb' 12 3 = 0b100#3 → DecodesR key w 0b0110011 .op .INT 4) ∧
    (w.extractLsb' 12 3 = 0b101#3 → w.extractLsb' 25 7 = 0 → DecodesR key w 0b0110011 .op .INT 14) ∧
    (w.extractLsb' 12 3 = 0b101#3 → w.extractLsb' 25 7 ≠ 0 → DecodesR key w 0b0110011 .op .INT 13) ∧
    (w.extractLsb' 12 3 = 0b110#3 → DecodesR key w 0b0110011 .op .INT 2) ∧
    (w.extractLsb' 12 3 = 0b111#3 → DecodesR key w 0b0110011 .op .INT 3)) ∧
  (∀ key : OpimmF7Key,
    decode key 0x00C58533#32 = .ok (shapeR 0b0110011 .op .INT 0 10 11 12 0 0) ∧
    decode key 0x40C58533#32 = .ok (shapeR 0b0110011 .op .INT 1 10 11 12 0 32) ∧
    decode key 0x02C58533#32 = .ok (shapeR 0b0110011 .op .INT 1 10 11 12 0 1) ∧
    decode key 0xFEC58533#32 = .ok (shapeR 0b0110011 .op .INT 1 10 11 12 0 127) ∧
    decode key 0x00C59533#32 = .ok (shapeR 0b0110011 .op .INT 15 10 11 12 1 0) ∧
    decode key 0x40C59533#32 = .ok (shapeR 0b0110011 .op .INT 15 10 11 12 1 32) ∧
    decode key 0x00C5A533#32 = .ok (shapeR 0b0110011 .op .INT 10 10 11 12 2 0) ∧
    decode key 0x00C5B533#32 = .ok (shapeR 0b0110011 .op .INT 11 10 11 12 3 0) ∧
    decode key 0x00C5C533#32 = .ok (shapeR 0b0110011 .op .INT 4 10 11 12 4 0)) ∧
  (∀ key : OpimmF7Key,
    decode key 0x00C5D533#32 = .ok (shapeR 0b0110011 .op .INT 14 10 11 12 5 0) ∧
    decode key 0x40C5D533#32 = .ok (shapeR 0b0110011 .op .INT 13 10 11 12 5 32) ∧
    decode key 0x02C5D533#32 = .ok (shapeR 0b0110011 .op .INT 13 10 11 12 5 1) ∧
    decode key 0x00C5E533#32 = .ok (shapeR 0b0110011 .op .INT 2 10 11 12 6 0) ∧
    decode key 0x02C5F533#32 = .ok (shapeR 0b0110011 .op .INT 3 10 11 12 7 1) ∧
    decode key 0x00C5F533#32 = .ok (shapeR 0b0110011 .op .INT 3 10 11 12 7 0))

/-- BRANCH.0, .1, .4 to .7 for every word, with the rules' examples (R230 to R235). The opcode value and the format
are the spec's defaults, log entries 1 and 2. -/
def Obligations.BranchClassResults : Prop :=
  (∀ (key : OpimmF7Key) (w : Word), w.extractLsb' 0 7 = 0b1100011#7 →
    (w.extractLsb' 12 3 = 0b000#3 → DecodesB key w 0b1100011 .branch .BRU 0) ∧
    (w.extractLsb' 12 3 = 0b001#3 → DecodesB key w 0b1100011 .branch .BRU 1) ∧
    (w.extractLsb' 12 3 = 0b100#3 → DecodesB key w 0b1100011 .branch .BRU 2) ∧
    (w.extractLsb' 12 3 = 0b101#3 → DecodesB key w 0b1100011 .branch .BRU 3) ∧
    (w.extractLsb' 12 3 = 0b110#3 → DecodesB key w 0b1100011 .branch .BRU 6) ∧
    (w.extractLsb' 12 3 = 0b111#3 → DecodesB key w 0b1100011 .branch .BRU 7)) ∧
  (∀ key : OpimmF7Key,
    decode key 0x00B50463#32 = .ok (shapeB 0b1100011 .branch .BRU 0 10 11 0 8) ∧
    decode key 0xFE051EE3#32 = .ok (shapeB 0b1100011 .branch .BRU 1 10 0 1 (-4)) ∧
    decode key 0x7E62CFE3#32 = .ok (shapeB 0b1100011 .branch .BRU 2 5 6 4 4094) ∧
    decode key 0x8062D063#32 = .ok (shapeB 0b1100011 .branch .BRU 3 5 6 5 (-4096)) ∧
    decode key 0x0062E0E3#32 = .ok (shapeB 0b1100011 .branch .BRU 6 5 6 6 2048) ∧
    decode key 0xFE62FFE3#32 = .ok (shapeB 0b1100011 .branch .BRU 7 5 6 7 (-2)))

/-- LOAD with funct3 3, 6, 7, STORE with 3 to 7 and BRANCH with 2, 3 raise UnsupportedOpcodeError at step 9, with the
rules' examples (R165, R169, R236). The opcode values are log entry 1, the payload log entry 19. -/
def Obligations.ErrorClassResults : Prop :=
  (∀ (key : OpimmF7Key) (w : Word),
    (w.extractLsb' 0 7 = 0b0000011#7 → w.extractLsb' 12 3 ∈ [3#3, 6#3, 7#3] → FailsAtStep9 key w .load) ∧
    (w.extractLsb' 0 7 = 0b0100011#7 → w.extractLsb' 12 3 ∈ [3#3, 4#3, 5#3, 6#3, 7#3] → FailsAtStep9 key w .store) ∧
    (w.extractLsb' 0 7 = 0b1100011#7 → w.extractLsb' 12 3 ∈ [2#3, 3#3] → FailsAtStep9 key w .branch)) ∧
  (∀ key : OpimmF7Key,
    FailsAtStep9 key 0x0000B083#32 .load ∧ FailsAtStep9 key 0x0000E083#32 .load ∧ FailsAtStep9 key 0x0000F083#32 .load ∧
    FailsAtStep9 key 0x0010B023#32 .store ∧ FailsAtStep9 key 0x0010C023#32 .store ∧
    FailsAtStep9 key 0x0010F023#32 .store ∧
    FailsAtStep9 key 0x0010A063#32 .branch ∧ FailsAtStep9 key 0x0010B063#32 .branch)

/-! ### Every class completes, in every state -/

/-- The LOAD classes complete (R46 and R39 with R160 to R164). Where the result goes is log entries 6 and 7. -/
def Obligations.LoadClassesComplete : Prop :=
  ∀ (rd rs1 : RegIndex) (imm : BitVec 12),
    CompletesWith (.load0 rd rs1 imm) (fun _ => shapeI 0b0000011 .load .LSU 1 rd rs1 0 imm) ∧
    CompletesWith (.load1 rd rs1 imm) (fun _ => shapeI 0b0000011 .load .LSU 2 rd rs1 1 imm) ∧
    CompletesWith (.load2 rd rs1 imm) (fun _ => shapeI 0b0000011 .load .LSU 3 rd rs1 2 imm) ∧
    CompletesWith (.load4 rd rs1 imm) (fun _ => shapeI 0b0000011 .load .LSU 5 rd rs1 4 imm) ∧
    CompletesWith (.load5 rd rs1 imm) (fun _ => shapeI 0b0000011 .load .LSU 6 rd rs1 5 imm)

/-- The STORE classes complete (R46 and R39 with R166 to R168). Where the result goes is log entries 6 and 7. -/
def Obligations.StoreClassesComplete : Prop :=
  ∀ (rs1 rs2 : RegIndex) (imm : BitVec 12),
    CompletesWith (.store0 rs1 rs2 imm) (fun _ => shapeS 0b0100011 .store .LSU 9 rs1 rs2 0 imm) ∧
    CompletesWith (.store1 rs1 rs2 imm) (fun _ => shapeS 0b0100011 .store .LSU 10 rs1 rs2 1 imm) ∧
    CompletesWith (.store2 rs1 rs2 imm) (fun _ => shapeS 0b0100011 .store .LSU 12 rs1 rs2 2 imm)

/-- MISC-MEM, JALR, SYSTEM, AUIPC, LUI and JAL complete, with no privilege check, no trap and no jump (R46 and R39
with R170, R180 to R184). Where the result goes is log entries 6 and 7. -/
def Obligations.WholeOpcodeClassesComplete : Prop :=
  (∀ (rd rs1 : RegIndex) (f3 : Funct3) (imm : BitVec 12),
    CompletesWith (.miscMem rd rs1 f3 imm) (fun _ => shapeI 0b0001111 .miscMem .INT 0 rd rs1 f3 imm) ∧
    CompletesWith (.jalr rd rs1 f3 imm) (fun _ => shapeI 0b1100111 .jalr .BRU 0 rd rs1 f3 imm) ∧
    CompletesWith (.system rd rs1 f3 imm) (fun _ => shapeI 0b1110011 .system .INT 9 rd rs1 f3 imm)) ∧
  (∀ (rd : RegIndex) (imm : BitVec 32),
    CompletesWith (.auipc rd imm) (fun _ => shapeU 0b0010111 .auipc .INT 0 rd imm) ∧
    CompletesWith (.lui rd imm) (fun _ => shapeU 0b0110111 .lui .INT 9 rd imm)) ∧
  (∀ (rd : RegIndex) (imm : BitVec 21),
    CompletesWith (.jal rd imm) (fun _ => shapeJ 0b1101111 .jal .BRU 8 rd imm))

/-- The OP-IMM classes complete, with the micro-op the setting of the key selects (R46 and R39 with R141, R200 to
R207). Where the result goes is log entries 6 and 7. -/
def Obligations.OpImmClassesComplete : Prop :=
  ∀ (rd rs1 : RegIndex) (imm : BitVec 12),
    CompletesWith (.opImm0 rd rs1 imm) (fun cfg => shapeI 0b0010011 .opImm .INT
      (if cfg.opimmF7Key = .word31_25 ∧ imm.extractLsb' 5 7 ≠ 0 then 1 else 0) rd rs1 0 imm) ∧
    CompletesWith (.opImm1 rd rs1 imm) (fun _ => shapeI 0b0010011 .opImm .INT 15 rd rs1 1 imm) ∧
    CompletesWith (.opImm2 rd rs1 imm) (fun _ => shapeI 0b0010011 .opImm .INT 10 rd rs1 2 imm) ∧
    CompletesWith (.opImm3 rd rs1 imm) (fun _ => shapeI 0b0010011 .opImm .INT 11 rd rs1 3 imm) ∧
    CompletesWith (.opImm4 rd rs1 imm) (fun _ => shapeI 0b0010011 .opImm .INT 4 rd rs1 4 imm) ∧
    CompletesWith (.opImm5 rd rs1 imm) (fun cfg => shapeI 0b0010011 .opImm .INT
      (if cfg.opimmF7Key = .word31_25 ∧ imm.extractLsb' 5 7 ≠ 0 then 13 else 14) rd rs1 5 imm) ∧
    CompletesWith (.opImm6 rd rs1 imm) (fun _ => shapeI 0b0010011 .opImm .INT 2 rd rs1 6 imm) ∧
    CompletesWith (.opImm7 rd rs1 imm) (fun _ => shapeI 0b0010011 .opImm .INT 3 rd rs1 7 imm)

/-- The OP classes complete (R46 and R39 with R208 to R217). Where the result goes is log entries 6 and 7. -/
def Obligations.OpClassesComplete : Prop :=
  ∀ (rd rs1 rs2 : RegIndex) (f7 : Funct7),
    CompletesWith (.op0z rd rs1 rs2) (fun _ => shapeR 0b0110011 .op .INT 0 rd rs1 rs2 0 0) ∧
    CompletesWith (.op0nz rd rs1 rs2 f7) (fun _ => shapeR 0b0110011 .op .INT 1 rd rs1 rs2 0 f7) ∧
    CompletesWith (.op1 rd rs1 rs2 f7) (fun _ => shapeR 0b0110011 .op .INT 15 rd rs1 rs2 1 f7) ∧
    CompletesWith (.op2 rd rs1 rs2 f7) (fun _ => shapeR 0b0110011 .op .INT 10 rd rs1 rs2 2 f7) ∧
    CompletesWith (.op3 rd rs1 rs2 f7) (fun _ => shapeR 0b0110011 .op .INT 11 rd rs1 rs2 3 f7) ∧
    CompletesWith (.op4 rd rs1 rs2 f7) (fun _ => shapeR 0b0110011 .op .INT 4 rd rs1 rs2 4 f7) ∧
    CompletesWith (.op5z rd rs1 rs2) (fun _ => shapeR 0b0110011 .op .INT 14 rd rs1 rs2 5 0) ∧
    CompletesWith (.op5nz rd rs1 rs2 f7) (fun _ => shapeR 0b0110011 .op .INT 13 rd rs1 rs2 5 f7) ∧
    CompletesWith (.op6 rd rs1 rs2 f7) (fun _ => shapeR 0b0110011 .op .INT 2 rd rs1 rs2 6 f7) ∧
    CompletesWith (.op7 rd rs1 rs2 f7) (fun _ => shapeR 0b0110011 .op .INT 3 rd rs1 rs2 7 f7)

/-- The BRANCH classes complete (R46 and R39 with R230 to R235). Where the result goes is log entries 6 and 7. -/
def Obligations.BranchClassesComplete : Prop :=
  ∀ (rs1 rs2 : RegIndex) (imm : BitVec 13),
    CompletesWith (.branch0 rs1 rs2 imm) (fun _ => shapeB 0b1100011 .branch .BRU 0 rs1 rs2 0 imm) ∧
    CompletesWith (.branch1 rs1 rs2 imm) (fun _ => shapeB 0b1100011 .branch .BRU 1 rs1 rs2 1 imm) ∧
    CompletesWith (.branch4 rs1 rs2 imm) (fun _ => shapeB 0b1100011 .branch .BRU 2 rs1 rs2 4 imm) ∧
    CompletesWith (.branch5 rs1 rs2 imm) (fun _ => shapeB 0b1100011 .branch .BRU 3 rs1 rs2 5 imm) ∧
    CompletesWith (.branch6 rs1 rs2 imm) (fun _ => shapeB 0b1100011 .branch .BRU 6 rs1 rs2 6 imm) ∧
    CompletesWith (.branch7 rs1 rs2 imm) (fun _ => shapeB 0b1100011 .branch .BRU 7 rs1 rs2 7 imm)

/-- The ten error classes complete: their effect is the error, returned to the caller, or annotated with address,
index, byte offset and word and ending the load (R46, R259 with R165, R169, R236). That an error is a next state is
log entry 8; its payload is log entry 19. -/
def Obligations.ErrorClassesComplete : Prop :=
  (∀ (rd rs1 : RegIndex) (imm : BitVec 12),
    RaisesWith (.load3 rd rs1 imm) (.unsupportedOpcode (.noMicroOp .load (some 3) none)) ∧
    RaisesWith (.load6 rd rs1 imm) (.unsupportedOpcode (.noMicroOp .load (some 6) none)) ∧
    RaisesWith (.load7 rd rs1 imm) (.unsupportedOpcode (.noMicroOp .load (some 7) none))) ∧
  (∀ (rs1 rs2 : RegIndex) (imm : BitVec 12),
    RaisesWith (.store3 rs1 rs2 imm) (.unsupportedOpcode (.noMicroOp .store (some 3) none)) ∧
    RaisesWith (.store4 rs1 rs2 imm) (.unsupportedOpcode (.noMicroOp .store (some 4) none)) ∧
    RaisesWith (.store5 rs1 rs2 imm) (.unsupportedOpcode (.noMicroOp .store (some 5) none)) ∧
    RaisesWith (.store6 rs1 rs2 imm) (.unsupportedOpcode (.noMicroOp .store (some 6) none)) ∧
    RaisesWith (.store7 rs1 rs2 imm) (.unsupportedOpcode (.noMicroOp .store (some 7) none))) ∧
  (∀ (rs1 rs2 : RegIndex) (imm : BitVec 13),
    RaisesWith (.branch2 rs1 rs2 imm) (.unsupportedOpcode (.noMicroOp .branch (some 2) none)) ∧
    RaisesWith (.branch3 rs1 rs2 imm) (.unsupportedOpcode (.noMicroOp .branch (some 3) none)))

/-- The FRAME of every class. With no load running only the replies change, by one more. While a load goes on, one
instruction is appended at the current address: every other address reads as before, and no key, diagnostic, reply or
text is touched. Where the load ends, it ends with an error reply and an empty loader. The model's own fields are log
entries 5, 6 and 27; that the loader is cleared is log entry 12. -/
def Obligations.FrameOfEveryClass : Prop :=
  ∀ (i : Instr) (s t : State), exec i s = .next t →
    t.cfg = s.cfg ∧ t.calls = s.calls ∧
    (s.loading = false → ∃ r, t = { s with replies := s.replies ++ [.decoded r] }) ∧
    (s.loading = true → t.loading = true →
      t.replies = s.replies ∧ t.lines = s.lines ∧ t.lineNo = s.lineNo ∧ t.words = s.words ∧
      t.loader.current = s.loader.current ∧ t.loader.diags = s.loader.diags ∧
      ∃ a ins, s.loader.current = some a ∧
        Memory.find? t.loader.image a = some (Memory.segment s.loader.image a ++ [ins]) ∧
        (∀ b, b ≠ a → Memory.find? t.loader.image b = Memory.find? s.loader.image b) ∧
        (a ∈ Memory.keys s.loader.image → Memory.keys t.loader.image = Memory.keys s.loader.image)) ∧
    (s.loading = true → t.loading = false → ∃ e, t = afterAbort s e)

/-! ### The machine -/

/-- Class by class is step by step: for every word, in every state and under either setting, the class's meaning does
exactly what delivering the nine-step `decode` of the word does, and a word with no class is one whose opcode is
unknown (R130 with files 41 to 44). Where a result goes is log entries 6 to 8. -/
def Obligations.EveryClassAgreesWithDecode : Prop :=
  ∀ (w : Word) (s : State),
    (∀ i, decodeWord w = .ok i → exec i s = .next (deliver w (decode s.cfg.opimmF7Key w) s)) ∧
    (∀ r, decodeWord w = .error r →
      r = .unknownOpcode (w.extractLsb' 0 7) ∧ rejectWord w s = deliver w (decode s.cfg.opimmF7Key w) s)

/-- A step runs the decoded instruction: the oldest word at the decoder's input leaves it and its class is run on what
is left; a word with no class raises the unknown opcode; with no word waiting the loader or the caller's side acts.
The step's size and the order of its cases are the model's choice, log entry 7. -/
def Obligations.StepRunsTheDecodedInstruction : Prop :=
  ∀ s : State,
    (∀ w ws i, s.words = w :: ws → decodeWord w = .ok i → step s = exec i { s with words := ws }) ∧
    (∀ w ws r, s.words = w :: ws → decodeWord w = .error r → step s = .next (rejectWord w { s with words := ws })) ∧
    (s.words = [] → s.loading = true → step s = .next (continueLoad s)) ∧
    (s.words = [] → s.loading = false → step s = .next (takeCall s))

/-- Decode and append: with a current address, the step on an assembled word appends the Instruction at that address, or
aborts the load with the error annotated with the address, the index the instruction would have had, its byte offset and
the word (R46, R259). One word a step is log entry 7, the state an abort leaves log entry 12, the annotation decision D22,
log entry 19, and the stride decision D14, log entry 20. -/
def Obligations.LoaderDecodesAndAppends : Prop :=
  ∀ (s : State) (w : Word) (ws : List Word) (a : LoadAddress), s.words = w :: ws → s.loading = true →
    s.loader.current = some a →
    (∀ ins, decode s.cfg.opimmF7Key w = .ok ins →
      step s = .next { s with words := ws, loader := { s.loader with image := Memory.append s.loader.image a ins } }) ∧
    (∀ e, decode s.cfg.opimmF7Key w = .err e →
      step s = .next (afterAbort s (.decoder e a (Memory.segment s.loader.image a).length
        (s.cfg.addrStride * (Memory.segment s.loader.image a).length) w)))

/-- A bit string of 32 characters is decoded as the word whose bit `31 - k` is character `k` (R5, step 1 of R130; log entry
24), whatever the tables. A `decode` call is answered with `decode` of its bit string, of any length, within two steps,
and leaves nothing behind: whatever was decoded before does not matter (R10, R27, R130, R255). The queues and the number
of steps are the model's, log entries 6 and 7. -/
def Obligations.DecodeCallIsAnswered : Prop :=
  (∀ (T : Tables) (key : OpimmF7Key) (bits : List Bool) (w : Word), Spells bits w →
    decodeBits T key bits = decodeWith T key w) ∧
  (∀ (s : State) (bits : List Bool) (cs : List Call), s.loading = false → s.words = [] → s.calls = .decode bits :: cs →
    ∃ n, n ≤ 2 ∧ (Host.Core.run Sys2Proof.core n s : Host.Outcome State Fault Refusal) =
      .next { s with calls := cs
                     replies := s.replies ++ [.decoded (decodeBits defaultTables s.cfg.opimmF7Key bits)] })

/-- Any number of `decode` calls, in any order and with repeats, are answered each by `decode` of its own string
(R285). The queues are the model's, log entry 6; calls are served one at a time, log entry 26. -/
def Obligations.DecodeCallsAreIndependent : Prop :=
  ∀ (s : State) (inputs : List (List Bool)), s.loading = false → s.words = [] →
    s.calls = inputs.map Call.decode →
    ∃ n, n ≤ 2 * inputs.length ∧ (Host.Core.run Sys2Proof.core n s : Host.Outcome State Fault Refusal) =
      .next { s with calls := []
                     replies := s.replies ++
                       inputs.map (fun bits => Reply.decoded (decodeBits defaultTables s.cfg.opimmF7Key bits)) }

/-- A `load` call is answered with `load` of its lines (R49), whatever was loaded before, in a number of steps that
the lines and their characters bound (R287); the loader is then in its initial state (R282). The queues and the number
of steps are the model's, log entries 6 and 7. -/
def Obligations.MachineAnswersLoadWithRule49 : Prop :=
  ∀ (s : State) (lines : List Line) (cs : List Call), s.loading = false → s.words = [] → s.calls = .load lines :: cs →
    ∃ n, n ≤ 2 + lines.length + (lines.map List.length).sum ∧
      (Host.Core.run Sys2Proof.core n s : Host.Outcome State Fault Refusal) =
        .next { s with calls := cs, lines := [], lineNo := 0, loader := Loader.initial
                       replies := s.replies ++ [.loaded (load s.cfg lines)] }

/-- Every step of a state that meets the invariant leads to a state that meets it. The invariant also ties the model's
own fields (log entries 12, 27). -/
def Obligations.StepKeepsTheInvariant : Prop :=
  ∀ s t : State, s.Inv → step s = .next t → t.Inv

/-- The state after reset meets the invariant. The model's own fields at reset are log entry 27. -/
def Obligations.ResetMeetsTheInvariant : Prop := State.reset.Inv

/-- No step faults or refuses: every error is an outcome returned to the caller (R27, R143, R264). That errors are
next states is log entry 8, that an idle step changes nothing log entry 11. -/
def Obligations.EveryStepAnswersANextState : Prop :=
  ∀ s : State, ∃ t, step s = .next t

/-- No step changes the settings, and no step changes or withdraws what the caller was given: the replies only grow
(R28, R32, R281). The settings and the replies are the model's fields, log entries 5 and 6. -/
def Obligations.StepKeepsSettingsAndReplies : Prop :=
  ∀ s t : State, step s = .next t → t.cfg = s.cfg ∧ s.replies <+: t.replies

/-- Segments are append-only during loading: while a load goes on, no step removes, replaces or reorders an instruction or
a key (R31). -/
def Obligations.SegmentsAreAppendOnly : Prop :=
  ∀ s t : State, s.loading = true → step s = .next t → t.loading = true →
    Memory.keys s.loader.image <+: Memory.keys t.loader.image ∧
    ∀ a, Memory.segment s.loader.image a <+: Memory.segment t.loader.image a

/-! ### The loader -/

/-- The reset values of the loader (R36). The spec gives them as decision D13. -/
def Obligations.ResetValuesOfTheLoader : Prop :=
  State.reset.loader = { image := [], current := none, diags := [] }

/-- Every load starts with an empty image, no current address and no diagnostics, whatever went before (R282). The
steps are log entry 7. -/
def Obligations.LoadStartsFromTheInitialState : Prop :=
  ∀ (s : State) (lines : List Line) (cs : List Call), s.loading = false → s.words = [] → s.calls = .load lines :: cs →
    step s = .next { s with calls := cs, loading := true, lines := lines, lineNo := 0
                            loader := { image := [], current := none, diags := [] } }

/-- A payload is valid exactly when it is one or more characters 0 to 9; its value is read in base 10 (R43). Decision
D18, log entry 17. -/
def Obligations.PayloadIsDecimal : Prop :=
  ∀ (p : List Char) (a : Nat),
    parseDecimal p = some a ↔
      p ≠ [] ∧ (∀ c ∈ p, '0'.toNat ≤ c.toNat ∧ c.toNat ≤ '9'.toNat) ∧
      a = p.foldl (fun v c => 10 * v + (c.toNat - '0'.toNat)) 0

/-- An address header: a new address becomes the last key with the empty segment, a repeat is reported and selects the
existing segment, and a payload that is no decimal aborts the load with AddressParseError (R43, R47, R257). Decisions
D18, D19, D22, D23: log entries 17 to 19; the white space trimmed is log entry 16. -/
def Obligations.AddressHeaderSelectsTheSegment : Prop :=
  ∀ (s : State) (line : Line) (ls : List Line) (afterAt : List Char), s.loading = true → s.words = [] →
    s.lines = line :: ls → trim line = '@' :: afterAt →
    (∀ a, parseDecimal (trim afterAt) = some a → a ∈ Memory.keys s.loader.image →
      step s = .next { s with lines := ls, lineNo := s.lineNo + 1
                              loader := { s.loader with current := some a
                                                        diags := s.loader.diags ++ [.duplicateAddress a] } }) ∧
    (∀ a, parseDecimal (trim afterAt) = some a → a ∉ Memory.keys s.loader.image →
      step s = .next { s with lines := ls, lineNo := s.lineNo + 1
                              loader := { s.loader with current := some a, image := s.loader.image ++ [(a, [])] } }) ∧
    (parseDecimal (trim afterAt) = none →
      step s = .next (afterAbort s (.addressParse (s.lineNo + 1) (trim afterAt))))

/-- A token is a byte exactly when it is two characters, each one of `0` to `9` (0 to 9), `a` to `f` or `A` to `F` (10 to
15); its value is `16*hi + lo` (R44). Decision D17, log entry 17. -/
def Obligations.TokenIsTwoHexDigits : Prop :=
  ∀ (t : List Char) (b : Byte),
    parseByte t = some b ↔
      ∃ hi lo h l, t = [hi, lo] ∧ HexDigitIs hi h ∧ HexDigitIs lo l ∧ b.toNat = 16 * h + l

/-- A data line, in the order of its checks: the token count, the tokens from the left, the current address; a valid
one puts a quarter as many words as it has tokens at the decoder's input (R44, R60, R63, R258). Decisions D15, D22,
D27: log entries 14, 19, 30; the white space that separates tokens is log entry 16. -/
def Obligations.DataLineChecksInOrder : Prop :=
  ∀ (s : State) (line : Line) (ls : List Line) (c : Char) (cs : List Char), s.loading = true → s.words = [] →
    s.lines = line :: ls → trim line = c :: cs → c ≠ '@' →
    (¬ ((tokens (c :: cs)).length ≠ 0 ∧ 4 ∣ (tokens (c :: cs)).length) →
      step s = .next (afterAbort s (.fileFormat (s.lineNo + 1) (.tokenCount (tokens (c :: cs)).length)))) ∧
    ((tokens (c :: cs)).length ≠ 0 → 4 ∣ (tokens (c :: cs)).length →
      (∀ good t bad, tokens (c :: cs) = good ++ t :: bad → (∀ g ∈ good, parseByte g ≠ none) → parseByte t = none →
        step s = .next (afterAbort s (.fileFormat (s.lineNo + 1) (.badToken t)))) ∧
      (∀ bytes, (tokens (c :: cs)).map parseByte = bytes.map some →
        (s.loader.current = none →
          step s = .next (afterAbort s (.fileFormat (s.lineNo + 1) .beforeHeader))) ∧
        (s.loader.current ≠ none →
          step s = .next { s with lines := ls, lineNo := s.lineNo + 1, words := groupWords bytes } ∧
          4 * (groupWords bytes).length = (tokens (c :: cs)).length)))

/-- A blank line is a data line with 0 tokens and fails with FileFormatError; under `BLANK_LINE_POLICY = skip` it is
ignored (R61). Decision D16, log entry 15; the white space is log entry 16. -/
def Obligations.BlankLinePolicyIsKept : Prop :=
  ∀ (s : State) (line : Line) (ls : List Line), s.loading = true → s.words = [] → s.lines = line :: ls →
    (∀ c ∈ line, isBlank c = true) →
    (s.cfg.blankLinePolicy = .error → step s = .next (afterAbort s (.fileFormat (s.lineNo + 1) (.tokenCount 0)))) ∧
    (s.cfg.blankLinePolicy = .skip → step s = .next { s with lines := ls, lineNo := s.lineNo + 1 })

/-- Loading is order-preserving: the instructions of a segment are the decodes of the words met for its address, in the
order met, across any number of data lines and repeated headers (R48). -/
def Obligations.LoadingPreservesOrder : Prop :=
  ∀ (cfg : Config) (lines : List Line) (image : MemoryImage) (diags : List Diagnostic),
    load cfg lines = .ok image diags →
    ∀ a, ((wordStream cfg none 0 lines).filter (fun p => p.1 = a)).map (fun p => decode cfg.opimmF7Key p.2) =
      (Memory.segment image a).map DecodeResult.ok

/-- The keys of a finished image are the header addresses in the order of their first appearance (R30), and its
diagnostics are the repeats, in order, none of which ended the load (R47, R262). Decisions D19, D21, D23: log entry
18. -/
def Obligations.KeysAndDiagnosticsFollowTheHeaders : Prop :=
  ∀ (cfg : Config) (lines : List Line) (image : MemoryImage) (diags : List Diagnostic),
    load cfg lines = .ok image diags →
    Memory.keys image = firstAppearances [] (headerAddresses cfg none 0 lines) ∧
    diags = (repeats [] (headerAddresses cfg none 0 lines)).map Diagnostic.duplicateAddress

/-- A load never fails with InvalidInstructionError: the loader assembles exactly four bytes (R251). -/
def Obligations.LoadNeverReportsWrongLength : Prop :=
  ∀ (cfg : Config) (lines : List Line) (n : Nat) (a offset bytes : Nat) (w : Word),
    load cfg lines ≠ .err (.decoder (.invalidInstruction n) a offset bytes w)

/-- The address of the i-th instruction of a segment is A + 4 i with the default stride, and the byte offset an error
reports is that address less A (R54, R259). Decision D14, log entry 20. -/
def Obligations.InstructionAddressIsFourApart : Prop :=
  ∀ (cfg : Config) (a : LoadAddress) (i : Nat),
    Memory.instructionAddress defaultConfig a i = a + 4 * i ∧
    Memory.instructionAddress cfg a i = a + byteOffset cfg i

/-- Lines after the first aborting error are not examined: whatever follows them, a text whose load fails fails with
the same error (R258). Decision D27, log entry 30. -/
def Obligations.LaterLinesAreNotExamined : Prop :=
  ∀ (cfg : Config) (lines more : List Line) (e : LoadError),
    load cfg lines = .err e → load cfg (lines ++ more) = .err e

/-- The command line's contract: the image of a successful load is handed on; on a failure the process fails, naming the
kind and, for a decoder error, the address and the offset (R266). That the offset named is the byte offset and not the
index, and that the other two errors name neither, are the model's choices, log entry 28. -/
def Obligations.CommandLineEndFollowsTheLoad : Prop :=
  ∀ (cfg : Config) (lines : List Line),
    (∀ image diags, load cfg lines = .ok image diags → commandLineEnd (load cfg lines) = .handOff image) ∧
    (∀ e, load cfg lines = .err e → ∃ a o, commandLineEnd (load cfg lines) = .failed e.kind a o) ∧
    (∀ e a i o w, load cfg lines = .err (.decoder e a i o w) →
      commandLineEnd (load cfg lines) = .failed e.kind (some a) (some o) ∧ o = byteOffset cfg i ∧
      decode cfg.opimmF7Key w = .err e)

/-- White space, trimming and tokens (R42 to R44). `trim` takes off white space at the two ends and nothing else, and leaves
none there. The tokens of a text of white space are none; of any other they are the maximal runs of characters that are
not white space, from the left: white space, then a run that ends at the end of the text or before white space, gives that
run and the tokens of what follows. Which characters are white space is the model's choice, log entry 16. -/
def Obligations.TrimAndTokensFollowTheWhiteSpace : Prop :=
  (∀ c : Char, isBlank c = true ↔ c.toNat = 32 ∨ (9 ≤ c.toNat ∧ c.toNat ≤ 13)) ∧
  (∀ cs : List Char,
    (∃ before after, cs = before ++ trim cs ++ after ∧ AllBlank before ∧ AllBlank after) ∧
    (∀ c, (trim cs).head? = some c → isBlank c = false) ∧
    (∀ c, (trim cs).getLast? = some c → isBlank c = false)) ∧
  (∀ gap : List Char, AllBlank gap → tokens gap = []) ∧
  (∀ gap run rest : List Char, AllBlank gap → run ≠ [] → NoneBlank run →
    (∀ c, rest.head? = some c → isBlank c = true) → tokens (gap ++ run ++ rest) = run :: tokens rest)
end

