-- ==== Sys2Proof/Laws/Decode.lean ====
section
/-!
SUPPORT. The bit lemmas of concatenation and field extraction, and the fields of each format's encoding: proofs about
decode and encode cite these and unfold neither.
-/

namespace Sys2Proof

/-- A field that lies in the lower part. -/
@[simp] theorem cat_extract_low {m n k : Nat} (a : BitVec m) (b : BitVec n) (hk : m + n = k) (s l : Nat) (h : s + l ≤ n) :
    (cat k a b hk).extractLsb' s l = b.extractLsb' s l := by
  subst hk
  ext i hi
  simp [cat, BitVec.getLsbD_append]
  omega

/-- A field that lies in the upper part. -/
@[simp] theorem cat_extract_high {m n k : Nat} (a : BitVec m) (b : BitVec n) (hk : m + n = k) (s l : Nat) (h : n ≤ s) :
    (cat k a b hk).extractLsb' s l = a.extractLsb' (s - n) l := by
  subst hk
  ext i hi
  simp only [cat, BitVec.cast_eq, BitVec.getElem_extractLsb', BitVec.getLsbD_append]
  rw [if_neg (by simp; omega)]
  congr 1
  omega

/-- Two neighbouring fields put together again. -/
@[simp] theorem cat_extract_join {m n k w : Nat} (x : BitVec w) (s t : Nat) (ht : t = s + n) (hk : m + n = k) :
    cat k (x.extractLsb' t m) (x.extractLsb' s n) hk = x.extractLsb' s k := by
  subst hk ht
  apply BitVec.eq_of_getLsbD_eq
  intro i hi
  simp only [cat, BitVec.cast_eq, BitVec.getLsbD_append, BitVec.getLsbD_extractLsb']
  by_cases h : i < n
  · simp [h, hi]
  · have e : s + n + (i - n) = s + i := by omega
    have hm : i - n < m := by omega
    simp [h, hi, e, hm]

/-- A field of a field. -/
@[simp] theorem extract_extract {w : Nat} (x : BitVec w) (s l t m : Nat) (h : t + m ≤ l) :
    (x.extractLsb' s l).extractLsb' t m = x.extractLsb' (s + t) m := by
  apply BitVec.eq_of_getLsbD_eq
  intro i hi
  have e : s + (t + i) = s + t + i := by omega
  have hl : t + i < l := by omega
  simp [hi, e, hl]

/-- One bit of a concatenation. -/
theorem cat_getLsbD {m n k : Nat} (a : BitVec m) (b : BitVec n) (hk : m + n = k) (i : Nat) :
    (cat k a b hk).getLsbD i = if i < n then b.getLsbD i else a.getLsbD (i - n) := by
  subst hk
  simp [cat, BitVec.getLsbD_append]

/-- What the three masks of the opcode table leave of a word (rule R103): the opcode. -/
theorem and_mask_opcode (w : Word) : w &&& 0x0000007F#32 = cat 32 0#25 (opcodeField w) := by
  apply BitVec.eq_of_getLsbD_eq
  intro i hi
  rw [cat_getLsbD, BitVec.getLsbD_and]
  interval_cases i <;> simp [opcodeField]

/-- The opcode and funct3. -/
theorem and_mask_funct3 (w : Word) :
    w &&& 0x0000707F#32 = cat 32 (cat 25 (cat 20 0#17 (funct3Field w)) 0#5) (opcodeField w) := by
  apply BitVec.eq_of_getLsbD_eq
  intro i hi
  rw [cat_getLsbD, cat_getLsbD, cat_getLsbD, BitVec.getLsbD_and]
  interval_cases i <;> simp [opcodeField, funct3Field]

/-- The opcode, funct3 and funct7. -/
theorem and_mask_funct7 (w : Word) :
    w &&& 0xFE00707F#32 =
      cat 32 (cat 25 (cat 20 (cat 17 (funct7Field w) 0#10) (funct3Field w)) 0#5) (opcodeField w) := by
  apply BitVec.eq_of_getLsbD_eq
  intro i hi
  rw [cat_getLsbD, cat_getLsbD, cat_getLsbD, cat_getLsbD, BitVec.getLsbD_and]
  interval_cases i <;> simp [opcodeField, funct3Field, funct7Field]

section formatR
variable (m : MajorOperation) (f3 : Funct3) (rd rs1 rs2 : RegIndex) (f7 : Funct7)

@[simp] theorem encodeR_opcode : opcodeField (encodeR m f3 rd rs1 rs2 f7) = opcodeOf m := by simp [opcodeField, encodeR]
@[simp] theorem encodeR_rd : rdField (encodeR m f3 rd rs1 rs2 f7) = rd := by simp [rdField, encodeR]
@[simp] theorem encodeR_funct3 : funct3Field (encodeR m f3 rd rs1 rs2 f7) = f3 := by simp [funct3Field, encodeR]
@[simp] theorem encodeR_rs1 : rs1Field (encodeR m f3 rd rs1 rs2 f7) = rs1 := by simp [rs1Field, encodeR]
@[simp] theorem encodeR_rs2 : rs2Field (encodeR m f3 rd rs1 rs2 f7) = rs2 := by simp [rs2Field, encodeR]
@[simp] theorem encodeR_funct7 : funct7Field (encodeR m f3 rd rs1 rs2 f7) = f7 := by simp [funct7Field, encodeR]

end formatR

section formatI
variable (m : MajorOperation) (f3 : Funct3) (rd rs1 : RegIndex) (imm : BitVec 12)

@[simp] theorem encodeI_opcode : opcodeField (encodeI m f3 rd rs1 imm) = opcodeOf m := by simp [opcodeField, encodeI]
@[simp] theorem encodeI_rd : rdField (encodeI m f3 rd rs1 imm) = rd := by simp [rdField, encodeI]
@[simp] theorem encodeI_funct3 : funct3Field (encodeI m f3 rd rs1 imm) = f3 := by simp [funct3Field, encodeI]
@[simp] theorem encodeI_rs1 : rs1Field (encodeI m f3 rd rs1 imm) = rs1 := by simp [rs1Field, encodeI]
@[simp] theorem encodeI_imm : immFieldI (encodeI m f3 rd rs1 imm) = imm := by simp [immFieldI, encodeI]

end formatI

section formatS
variable (m : MajorOperation) (f3 : Funct3) (rs1 rs2 : RegIndex) (imm : BitVec 12)

@[simp] theorem encodeS_opcode : opcodeField (encodeS m f3 rs1 rs2 imm) = opcodeOf m := by simp [opcodeField, encodeS]
@[simp] theorem encodeS_funct3 : funct3Field (encodeS m f3 rs1 rs2 imm) = f3 := by simp [funct3Field, encodeS]
@[simp] theorem encodeS_rs1 : rs1Field (encodeS m f3 rs1 rs2 imm) = rs1 := by simp [rs1Field, encodeS]
@[simp] theorem encodeS_rs2 : rs2Field (encodeS m f3 rs1 rs2 imm) = rs2 := by simp [rs2Field, encodeS]
@[simp] theorem encodeS_imm : immFieldS (encodeS m f3 rs1 rs2 imm) = imm := by simp [immFieldS, encodeS]

end formatS

section formatB
variable (m : MajorOperation) (f3 : Funct3) (rs1 rs2 : RegIndex) (imm : BitVec 13)

@[simp] theorem encodeB_opcode : opcodeField (encodeB m f3 rs1 rs2 imm) = opcodeOf m := by simp [opcodeField, encodeB]
@[simp] theorem encodeB_funct3 : funct3Field (encodeB m f3 rs1 rs2 imm) = f3 := by simp [funct3Field, encodeB]
@[simp] theorem encodeB_rs1 : rs1Field (encodeB m f3 rs1 rs2 imm) = rs1 := by simp [rs1Field, encodeB]
@[simp] theorem encodeB_rs2 : rs2Field (encodeB m f3 rs1 rs2 imm) = rs2 := by simp [rs2Field, encodeB]

/-- The low bit is written as 0 (rule R92), so it comes back as it was only if it was 0. -/
theorem encodeB_imm (h : lowBitZero imm = true) : immFieldB (encodeB m f3 rs1 rs2 imm) = imm := by
  have h0 : imm.extractLsb' 0 1 = 0#1 := by simpa [lowBitZero] using h
  simp only [immFieldB, ← h0]
  simp [encodeB]

end formatB

section formatU
variable (m : MajorOperation) (rd : RegIndex) (imm : BitVec 32)

@[simp] theorem encodeU_opcode : opcodeField (encodeU m rd imm) = opcodeOf m := by simp [opcodeField, encodeU]
@[simp] theorem encodeU_rd : rdField (encodeU m rd imm) = rd := by simp [rdField, encodeU]

/-- The low twelve bits are written as 0 (rule R93). -/
theorem encodeU_imm (h : lowTwelveZero imm = true) : immFieldU (encodeU m rd imm) = imm := by
  have h0 : imm.extractLsb' 0 12 = 0#12 := by simpa [lowTwelveZero] using h
  simp only [immFieldU, ← h0]
  simp [encodeU]

end formatU

section formatJ
variable (m : MajorOperation) (rd : RegIndex) (imm : BitVec 21)

@[simp] theorem encodeJ_opcode : opcodeField (encodeJ m rd imm) = opcodeOf m := by simp [opcodeField, encodeJ]
@[simp] theorem encodeJ_rd : rdField (encodeJ m rd imm) = rd := by simp [rdField, encodeJ]

/-- The low bit is written as 0 (rule R94). -/
theorem encodeJ_imm (h : lowBitZero imm = true) : immFieldJ (encodeJ m rd imm) = imm := by
  have h0 : imm.extractLsb' 0 1 = 0#1 := by simpa [lowBitZero] using h
  simp only [immFieldJ, ← h0]
  simp [encodeJ]

end formatJ

/-- No two major operations share an opcode, so each is found from its own (rule R96). -/
theorem find_opcodeOf (m : MajorOperation) :
    MajorOperation.all.find? (fun k => opcodeOf k == opcodeOf m) = some m := by
  cases m <;> decide

/-- A word with a major operation's opcode is classified as that major operation's. -/
theorem decodeWord_of_opcode {w : Word} {m : MajorOperation} (h : opcodeField w = opcodeOf m) :
    decodeWord w = .ok (classify m w) := by
  simp [decodeWord, h, find_opcodeOf]

end Sys2Proof
end

