-- ==== Sys2Proof/Laws/State.lean ====
section
/-!
SUPPORT. The fields of State after each update that Machine/Ops.lean makes, each true by rfl, so that no later proof
unfolds a record update.
-/

namespace Sys2Proof.Machine

section reply
variable (s : State) (r : Reply)

@[simp] theorem reply_cfg : (s.reply r).cfg = s.cfg := rfl
@[simp] theorem reply_calls : (s.reply r).calls = s.calls := rfl
@[simp] theorem reply_replies : (s.reply r).replies = s.replies ++ [r] := rfl
@[simp] theorem reply_loading : (s.reply r).loading = s.loading := rfl
@[simp] theorem reply_lines : (s.reply r).lines = s.lines := rfl
@[simp] theorem reply_lineNo : (s.reply r).lineNo = s.lineNo := rfl
@[simp] theorem reply_words : (s.reply r).words = s.words := rfl
@[simp] theorem reply_loader : (s.reply r).loader = s.loader := rfl

end reply

section endLoad
variable (s : State)

@[simp] theorem endLoad_cfg : s.endLoad.cfg = s.cfg := rfl
@[simp] theorem endLoad_calls : s.endLoad.calls = s.calls := rfl
@[simp] theorem endLoad_replies : s.endLoad.replies = s.replies := rfl
@[simp] theorem endLoad_loading : s.endLoad.loading = false := rfl
@[simp] theorem endLoad_lines : s.endLoad.lines = [] := rfl
@[simp] theorem endLoad_lineNo : s.endLoad.lineNo = 0 := rfl
@[simp] theorem endLoad_words : s.endLoad.words = [] := rfl
@[simp] theorem endLoad_loader : s.endLoad.loader = Loader.initial := rfl

end endLoad

section abort
variable (s : State) (e : LoadError)

@[simp] theorem abort_cfg : (s.abort e).cfg = s.cfg := rfl
@[simp] theorem abort_calls : (s.abort e).calls = s.calls := rfl
@[simp] theorem abort_replies : (s.abort e).replies = s.replies ++ [.loaded (.err e)] := rfl
@[simp] theorem abort_loading : (s.abort e).loading = false := rfl
@[simp] theorem abort_lines : (s.abort e).lines = [] := rfl
@[simp] theorem abort_lineNo : (s.abort e).lineNo = 0 := rfl
@[simp] theorem abort_words : (s.abort e).words = [] := rfl
@[simp] theorem abort_loader : (s.abort e).loader = Loader.initial := rfl

end abort

section finish
variable (s : State)

@[simp] theorem finish_cfg : s.finish.cfg = s.cfg := rfl
@[simp] theorem finish_calls : s.finish.calls = s.calls := rfl
@[simp] theorem finish_replies :
    s.finish.replies = s.replies ++ [.loaded (.ok s.loader.image s.loader.diags)] := rfl
@[simp] theorem finish_loading : s.finish.loading = false := rfl
@[simp] theorem finish_lines : s.finish.lines = [] := rfl
@[simp] theorem finish_lineNo : s.finish.lineNo = 0 := rfl
@[simp] theorem finish_words : s.finish.words = [] := rfl
@[simp] theorem finish_loader : s.finish.loader = Loader.initial := rfl

end finish

section loader
variable (l : Loader) (a : LoadAddress) (ins : Instruction)

@[simp] theorem initial_image : Loader.initial.image = [] := rfl
@[simp] theorem initial_current : Loader.initial.current = none := rfl
@[simp] theorem initial_diags : Loader.initial.diags = [] := rfl
@[simp] theorem append_image : (l.append a ins).image = Memory.append l.image a ins := rfl
@[simp] theorem append_current : (l.append a ins).current = l.current := rfl
@[simp] theorem append_diags : (l.append a ins).diags = l.diags := rfl

end loader

end Sys2Proof.Machine
end

