-- ==== Sys2Proof/Laws/Memory.lean ====
section
/-!
SUPPORT. The memory image: what each operation makes of the keys and of the segment at any address, and that every
operation keeps the canonical form `Memory.wf`.
-/

namespace Sys2Proof.Machine

@[simp] theorem keys_nil : Memory.keys [] = [] := rfl

@[simp] theorem keys_cons (k : LoadAddress) (seg : Segment) (m : MemoryImage) :
    Memory.keys ((k, seg) :: m) = k :: Memory.keys m := rfl

@[simp] theorem find?_nil (a : LoadAddress) : Memory.find? [] a = none := rfl

theorem find?_cons (k a : LoadAddress) (seg : Segment) (m : MemoryImage) :
    Memory.find? ((k, seg) :: m) a = if k = a then some seg else Memory.find? m a := rfl

theorem find?_eq_none_iff (m : MemoryImage) (a : LoadAddress) : Memory.find? m a = none ↔ a ∉ Memory.keys m := by
  induction m with
  | nil => simp
  | cons p m ih =>
    obtain ⟨k, seg⟩ := p
    by_cases h : k = a
    · simp [find?_cons, h]
    · simp [find?_cons, h, ih, Ne.symm h]

@[simp] theorem hasKey_iff (m : MemoryImage) (a : LoadAddress) : Memory.hasKey m a = true ↔ a ∈ Memory.keys m := by
  have := find?_eq_none_iff m a
  unfold Memory.hasKey
  cases h : Memory.find? m a with
  | none => simpa [h] using this
  | some seg => simpa [h] using this

@[simp] theorem keys_addKey (m : MemoryImage) (a : LoadAddress) :
    Memory.keys (Memory.addKey m a) = Memory.keys m ++ [a] := by
  simp [Memory.keys, Memory.addKey]

theorem keys_append (m : MemoryImage) (a : LoadAddress) (ins : Instruction) :
    Memory.keys (Memory.append m a ins) = if a ∈ Memory.keys m then Memory.keys m else Memory.keys m ++ [a] := by
  induction m with
  | nil => simp [Memory.append]
  | cons p m ih =>
    obtain ⟨k, seg⟩ := p
    by_cases h : k = a
    · simp [Memory.append, h]
    · simp only [Memory.append, h, if_false, keys_cons, ih, List.mem_cons, Ne.symm h, false_or]
      split <;> simp

theorem find?_addKey (m : MemoryImage) (a b : LoadAddress) (h : a ∉ Memory.keys m) :
    Memory.find? (Memory.addKey m a) b = if a = b then some [] else Memory.find? m b := by
  induction m with
  | nil => simp [Memory.addKey, find?_cons]
  | cons p m ih =>
    obtain ⟨k, seg⟩ := p
    simp only [keys_cons, List.mem_cons, not_or] at h
    have ih := ih h.2
    simp only [Memory.addKey] at ih
    simp only [Memory.addKey, List.cons_append, find?_cons, ih]
    by_cases hk : k = b
    · have : a ≠ b := fun e => h.1 (e.trans hk.symm)
      simp [hk, this]
    · simp [hk]

theorem find?_append_same (m : MemoryImage) (a : LoadAddress) (ins : Instruction) :
    Memory.find? (Memory.append m a ins) a = some (Memory.segment m a ++ [ins]) := by
  induction m with
  | nil => simp [Memory.append, find?_cons, Memory.segment]
  | cons p m ih =>
    obtain ⟨k, seg⟩ := p
    by_cases h : k = a
    · simp [Memory.append, h, find?_cons, Memory.segment]
    · simpa [Memory.append, h, find?_cons, Memory.segment] using ih

theorem find?_append_other (m : MemoryImage) (a b : LoadAddress) (ins : Instruction) (h : b ≠ a) :
    Memory.find? (Memory.append m a ins) b = Memory.find? m b := by
  induction m with
  | nil => simp [Memory.append, find?_cons, Ne.symm h]
  | cons p m ih =>
    obtain ⟨k, seg⟩ := p
    by_cases hk : k = a
    · simp [Memory.append, hk, find?_cons, Ne.symm h]
    · simp [Memory.append, hk, find?_cons, ih]

theorem wf_nil : Memory.wf [] := List.nodup_nil

theorem wf_addKey {m : MemoryImage} {a : LoadAddress} (hm : Memory.wf m) (ha : a ∉ Memory.keys m) :
    Memory.wf (Memory.addKey m a) := by
  unfold Memory.wf
  rw [keys_addKey]
  exact List.Nodup.append hm (by simp) (by simpa using ha)

theorem wf_append {m : MemoryImage} (a : LoadAddress) (ins : Instruction) (hm : Memory.wf m) :
    Memory.wf (Memory.append m a ins) := by
  unfold Memory.wf
  rw [keys_append]
  split
  · exact hm
  · next h => exact List.Nodup.append hm (by simp) (by simpa using h)

/-- Selecting an address keeps the form: a new key is added only where it is missing. -/
theorem wf_select {l : Loader} (a : LoadAddress) (hl : Memory.wf l.image) : Memory.wf (l.select a).image := by
  unfold Loader.select
  split
  · exact hl
  · next h => exact wf_addKey hl (by simpa using h)

/-- The image at reset has the canonical form. -/
theorem wf_reset : Memory.wf State.reset.loader.image := wf_nil

end Sys2Proof.Machine
end

