-- ==== Sys2Proof/Laws/Ops.lean ====
section
/-!
SUPPORT. One lemma per shared operation that says once everything it can do; proofs cite these and do not unfold.
-/

namespace Sys2Proof.Machine

/-- Selecting an address: a repeat adds a diagnostic, a new address becomes the last key. -/
theorem select_cases (l : Loader) (a : LoadAddress) :
    (a ∈ Memory.keys l.image ∧
      l.select a = { image := l.image, current := some a, diags := l.diags ++ [.duplicateAddress a] }) ∨
    (a ∉ Memory.keys l.image ∧
      l.select a = { image := Memory.addKey l.image a, current := some a, diags := l.diags }) := by
  unfold Loader.select
  by_cases h : a ∈ Memory.keys l.image
  · exact .inl ⟨h, by rw [if_pos ((hasKey_iff _ _).2 h)]⟩
  · exact .inr ⟨h, by rw [if_neg (fun e => h ((hasKey_iff _ _).1 e))]⟩

/-- Delivering an Instruction: to the caller, to the current segment, or, where a load has no current segment, an abort. -/
theorem accept_cases (ins : Instruction) (s : State) :
    (s.loading = false ∧ accept ins s = s.reply (.decoded (.ok ins))) ∨
    (s.loading = true ∧ ∃ a, s.loader.current = some a ∧
      accept ins s = { s with loader := s.loader.append a ins }) ∨
    (s.loading = true ∧ s.loader.current = none ∧
      accept ins s = s.abort (.fileFormat s.lineNo .beforeHeader)) := by
  unfold accept
  cases hl : s.loading with
  | false => simp
  | true => cases hc : s.loader.current <;> simp

/-- Raising an error: to the caller, or an abort of the load that is running. -/
theorem raise_cases (w : Word) (e : DecodeError) (s : State) :
    (s.loading = false ∧ raise w e s = s.reply (.decoded (.err e))) ∨
    (s.loading = true ∧ ∃ a, s.loader.current = some a ∧
      raise w e s = s.abort (annotate s.cfg s.loader a w e)) ∨
    (s.loading = true ∧ s.loader.current = none ∧
      raise w e s = s.abort (.fileFormat s.lineNo .beforeHeader)) := by
  unfold raise
  cases hl : s.loading with
  | false => simp
  | true => cases hc : s.loader.current <;> simp

@[simp] theorem deliver_ok (w : Word) (ins : Instruction) (s : State) : deliver w (.ok ins) s = accept ins s := rfl

@[simp] theorem deliver_err (w : Word) (e : DecodeError) (s : State) : deliver w (.err e) s = raise w e s := rfl

theorem fetch_nil {s : State} (h : s.words = []) : fetch s = none := by simp [fetch, h]

theorem fetch_cons {s : State} {w : Word} {ws : List Word} (h : s.words = w :: ws) :
    fetch s = some (w, { s with words := ws }) := by simp [fetch, h]

/-- Every instruction class either delivers an Instruction or raises an error on its own word. -/
theorem exec_cases (i : Instr) (s : State) :
    (∃ ins, exec i s = .next (accept ins s)) ∨ (∃ e, exec i s = .next (raise (encode i) e s)) := by
  cases i <;> first | exact .inl ⟨_, rfl⟩ | exact .inr ⟨_, rfl⟩

/-- What a step does: it delivers or raises on the word fetched, or, with no word waiting, advances the loader or the
caller's side. -/
theorem step_cases (s : State) :
    (s.words = [] ∧ step s = .next (advance s)) ∨
    (∃ w ws, s.words = w :: ws ∧
      ((∃ ins, step s = .next (accept ins { s with words := ws })) ∨
       (∃ u e, step s = .next (raise u e { s with words := ws })))) := by
  cases hw : s.words with
  | nil => exact .inl ⟨rfl, by simp [step, fetch_nil hw]⟩
  | cons w ws =>
    refine .inr ⟨w, ws, rfl, ?_⟩
    simp only [step, fetch_cons hw]
    cases decodeWord w with
    | error r => exact .inr ⟨w, _, rfl⟩
    | ok i =>
      rcases exec_cases i { s with words := ws } with ⟨ins, h⟩ | ⟨e, h⟩
      · exact .inl ⟨ins, h⟩
      · exact .inr ⟨_, e, h⟩

/-- With no word waiting and no load running: nothing, or the oldest call is taken. -/
theorem takeCall_cases (s : State) :
    (s.calls = [] ∧ takeCall s = s) ∨
    (∃ bits cs, s.calls = .decode bits :: cs ∧ takeCall s = beginDecode bits { s with calls := cs }) ∨
    (∃ lines cs, s.calls = .load lines :: cs ∧ takeCall s = beginLoad lines { s with calls := cs }) := by
  unfold takeCall
  split
  · next h => exact .inl ⟨h, rfl⟩
  · next bits cs h => exact .inr (.inl ⟨bits, cs, h, rfl⟩)
  · next lines cs h => exact .inr (.inr ⟨lines, cs, h, rfl⟩)

/-- A bit string of 32 bits spells a word, any other none. -/
theorem wordOfBits_isSome (bits : List Bool) : (wordOfBits bits).isSome = true ↔ bits.length = 32 := by
  unfold wordOfBits
  split <;> simp_all

/-- The memory image stays in canonical form when an Instruction is delivered or an error raised. -/
theorem wf_accept {s : State} (ins : Instruction) (h : Memory.wf s.loader.image) :
    Memory.wf (accept ins s).loader.image := by
  rcases accept_cases ins s with ⟨_, e⟩ | ⟨_, a, _, e⟩ | ⟨_, _, e⟩ <;> rw [e]
  · exact h
  · exact wf_append a ins h
  · exact wf_nil

theorem wf_raise {s : State} (w : Word) (e : DecodeError) (h : Memory.wf s.loader.image) :
    Memory.wf (raise w e s).loader.image := by
  rcases raise_cases w e s with ⟨_, h'⟩ | ⟨_, a, _, h'⟩ | ⟨_, _, h'⟩ <;> rw [h']
  · exact h
  · exact wf_nil
  · exact wf_nil

end Sys2Proof.Machine
end

