-- ==== Sys2Proof/Laws/PerInstr.lean ====
section
/-!
SUPPORT. Statements made per instruction class, one lemma a constructor.
-/

namespace Sys2Proof.Laws.EncodedOpcode

/-- The low seven bits of a class's word are its major operation's opcode (rules R81, R96). -/
def Statement (i : Instr) : Prop := opcodeField (encode i) = opcodeOf i.majorOperation

theorem load0 (rd rs1 : RegIndex) (imm : BitVec 12) : Statement (.load0 rd rs1 imm) := encodeI_opcode _ _ _ _ _
theorem load1 (rd rs1 : RegIndex) (imm : BitVec 12) : Statement (.load1 rd rs1 imm) := encodeI_opcode _ _ _ _ _
theorem load2 (rd rs1 : RegIndex) (imm : BitVec 12) : Statement (.load2 rd rs1 imm) := encodeI_opcode _ _ _ _ _
theorem load4 (rd rs1 : RegIndex) (imm : BitVec 12) : Statement (.load4 rd rs1 imm) := encodeI_opcode _ _ _ _ _
theorem load5 (rd rs1 : RegIndex) (imm : BitVec 12) : Statement (.load5 rd rs1 imm) := encodeI_opcode _ _ _ _ _
theorem load3 (rd rs1 : RegIndex) (imm : BitVec 12) : Statement (.load3 rd rs1 imm) := encodeI_opcode _ _ _ _ _
theorem load6 (rd rs1 : RegIndex) (imm : BitVec 12) : Statement (.load6 rd rs1 imm) := encodeI_opcode _ _ _ _ _
theorem load7 (rd rs1 : RegIndex) (imm : BitVec 12) : Statement (.load7 rd rs1 imm) := encodeI_opcode _ _ _ _ _
theorem store0 (rs1 rs2 : RegIndex) (imm : BitVec 12) : Statement (.store0 rs1 rs2 imm) := encodeS_opcode _ _ _ _ _
theorem store1 (rs1 rs2 : RegIndex) (imm : BitVec 12) : Statement (.store1 rs1 rs2 imm) := encodeS_opcode _ _ _ _ _
theorem store2 (rs1 rs2 : RegIndex) (imm : BitVec 12) : Statement (.store2 rs1 rs2 imm) := encodeS_opcode _ _ _ _ _
theorem store3 (rs1 rs2 : RegIndex) (imm : BitVec 12) : Statement (.store3 rs1 rs2 imm) := encodeS_opcode _ _ _ _ _
theorem store4 (rs1 rs2 : RegIndex) (imm : BitVec 12) : Statement (.store4 rs1 rs2 imm) := encodeS_opcode _ _ _ _ _
theorem store5 (rs1 rs2 : RegIndex) (imm : BitVec 12) : Statement (.store5 rs1 rs2 imm) := encodeS_opcode _ _ _ _ _
theorem store6 (rs1 rs2 : RegIndex) (imm : BitVec 12) : Statement (.store6 rs1 rs2 imm) := encodeS_opcode _ _ _ _ _
theorem store7 (rs1 rs2 : RegIndex) (imm : BitVec 12) : Statement (.store7 rs1 rs2 imm) := encodeS_opcode _ _ _ _ _
theorem miscMem (rd rs1 : RegIndex) (funct3 : Funct3) (imm : BitVec 12) : Statement (.miscMem rd rs1 funct3 imm) := encodeI_opcode _ _ _ _ _
theorem auipc (rd : RegIndex) (imm : BitVec 32) : Statement (.auipc rd imm) := encodeU_opcode _ _ _
theorem lui (rd : RegIndex) (imm : BitVec 32) : Statement (.lui rd imm) := encodeU_opcode _ _ _
theorem jalr (rd rs1 : RegIndex) (funct3 : Funct3) (imm : BitVec 12) : Statement (.jalr rd rs1 funct3 imm) := encodeI_opcode _ _ _ _ _
theorem jal (rd : RegIndex) (imm : BitVec 21) : Statement (.jal rd imm) := encodeJ_opcode _ _ _
theorem system (rd rs1 : RegIndex) (funct3 : Funct3) (imm : BitVec 12) : Statement (.system rd rs1 funct3 imm) := encodeI_opcode _ _ _ _ _
theorem opImm0 (rd rs1 : RegIndex) (imm : BitVec 12) : Statement (.opImm0 rd rs1 imm) := encodeI_opcode _ _ _ _ _
theorem opImm1 (rd rs1 : RegIndex) (imm : BitVec 12) : Statement (.opImm1 rd rs1 imm) := encodeI_opcode _ _ _ _ _
theorem opImm2 (rd rs1 : RegIndex) (imm : BitVec 12) : Statement (.opImm2 rd rs1 imm) := encodeI_opcode _ _ _ _ _
theorem opImm3 (rd rs1 : RegIndex) (imm : BitVec 12) : Statement (.opImm3 rd rs1 imm) := encodeI_opcode _ _ _ _ _
theorem opImm4 (rd rs1 : RegIndex) (imm : BitVec 12) : Statement (.opImm4 rd rs1 imm) := encodeI_opcode _ _ _ _ _
theorem opImm5 (rd rs1 : RegIndex) (imm : BitVec 12) : Statement (.opImm5 rd rs1 imm) := encodeI_opcode _ _ _ _ _
theorem opImm6 (rd rs1 : RegIndex) (imm : BitVec 12) : Statement (.opImm6 rd rs1 imm) := encodeI_opcode _ _ _ _ _
theorem opImm7 (rd rs1 : RegIndex) (imm : BitVec 12) : Statement (.opImm7 rd rs1 imm) := encodeI_opcode _ _ _ _ _
theorem op0z (rd rs1 rs2 : RegIndex) : Statement (.op0z rd rs1 rs2) := encodeR_opcode _ _ _ _ _ _
theorem op0nz (rd rs1 rs2 : RegIndex) (funct7 : Funct7) : Statement (.op0nz rd rs1 rs2 funct7) := encodeR_opcode _ _ _ _ _ _
theorem op1 (rd rs1 rs2 : RegIndex) (funct7 : Funct7) : Statement (.op1 rd rs1 rs2 funct7) := encodeR_opcode _ _ _ _ _ _
theorem op2 (rd rs1 rs2 : RegIndex) (funct7 : Funct7) : Statement (.op2 rd rs1 rs2 funct7) := encodeR_opcode _ _ _ _ _ _
theorem op3 (rd rs1 rs2 : RegIndex) (funct7 : Funct7) : Statement (.op3 rd rs1 rs2 funct7) := encodeR_opcode _ _ _ _ _ _
theorem op4 (rd rs1 rs2 : RegIndex) (funct7 : Funct7) : Statement (.op4 rd rs1 rs2 funct7) := encodeR_opcode _ _ _ _ _ _
theorem op5z (rd rs1 rs2 : RegIndex) : Statement (.op5z rd rs1 rs2) := encodeR_opcode _ _ _ _ _ _
theorem op5nz (rd rs1 rs2 : RegIndex) (funct7 : Funct7) : Statement (.op5nz rd rs1 rs2 funct7) := encodeR_opcode _ _ _ _ _ _
theorem op6 (rd rs1 rs2 : RegIndex) (funct7 : Funct7) : Statement (.op6 rd rs1 rs2 funct7) := encodeR_opcode _ _ _ _ _ _
theorem op7 (rd rs1 rs2 : RegIndex) (funct7 : Funct7) : Statement (.op7 rd rs1 rs2 funct7) := encodeR_opcode _ _ _ _ _ _
theorem branch0 (rs1 rs2 : RegIndex) (imm : BitVec 13) : Statement (.branch0 rs1 rs2 imm) := encodeB_opcode _ _ _ _ _
theorem branch1 (rs1 rs2 : RegIndex) (imm : BitVec 13) : Statement (.branch1 rs1 rs2 imm) := encodeB_opcode _ _ _ _ _
theorem branch4 (rs1 rs2 : RegIndex) (imm : BitVec 13) : Statement (.branch4 rs1 rs2 imm) := encodeB_opcode _ _ _ _ _
theorem branch5 (rs1 rs2 : RegIndex) (imm : BitVec 13) : Statement (.branch5 rs1 rs2 imm) := encodeB_opcode _ _ _ _ _
theorem branch6 (rs1 rs2 : RegIndex) (imm : BitVec 13) : Statement (.branch6 rs1 rs2 imm) := encodeB_opcode _ _ _ _ _
theorem branch7 (rs1 rs2 : RegIndex) (imm : BitVec 13) : Statement (.branch7 rs1 rs2 imm) := encodeB_opcode _ _ _ _ _
theorem branch2 (rs1 rs2 : RegIndex) (imm : BitVec 13) : Statement (.branch2 rs1 rs2 imm) := encodeB_opcode _ _ _ _ _
theorem branch3 (rs1 rs2 : RegIndex) (imm : BitVec 13) : Statement (.branch3 rs1 rs2 imm) := encodeB_opcode _ _ _ _ _

end Sys2Proof.Laws.EncodedOpcode
end

