-- ==== Sys2Proof/Tests/Slice0.lean ====
section
/-!
SUPPORT. Tests. Every expected result is the spec's own: the examples of 95_test_vectors.md and of the rules of files 20
and 41 to 44, or a word put together by hand from the layouts of 30_encoding.md. The theorems named witness_… show, for
each statement that has hypotheses, a concrete input that meets them all.
-/

namespace Sys2Proof.Machine.Tests

open Sys2Proof Sys2Proof.Machine

/-! ### Small states and readings -/

/-- The next state, if there is one. -/
def nextOf : Host.Outcome State Fault Refusal → Option State
  | .next s    => some s
  | .fault _   => none
  | .refused _ => none

/-- Lines of text. -/
def text (ls : List String) : List Line := ls.map String.toList

/-- A word as a bit string, most significant bit first (rule R5). -/
def bitString (w : Word) : List Bool := ((List.range 32).map w.getLsbD).reverse

/-- No load running, the words at the decoder's input. -/
def withWords (ws : List Word) : State := { State.reset with words := ws }

/-- No load running, one call made. -/
def withCall (c : Call) : State := { State.reset with calls := [c] }

/-- The first instruction of the spec's example S1. -/
def addi5 : Instruction := shapeI 0b0010011 .opImm .INT 0 10 0 0 5

/-- A load that has met `@0` and one instruction. -/
def midLoad (lines : List Line) (ws : List Word) : State :=
  { State.reset with
    loading := true
    lines := lines
    lineNo := 2
    words := ws
    loader := { image := [(0, [addi5])], current := some 0, diags := [] } }

/-- A load that has met nothing. -/
def startLoad (lines : List Line) : State := { State.reset with loading := true, lines := lines }

/-- The same under the other blank-line policy. -/
def startLoadSkip (lines : List Line) : State :=
  { startLoad lines with cfg := { defaultConfig with blankLinePolicy := .skip } }

/-- The immediate as an integer. -/
def immediateInt : DecodeResult → Option Int
  | .ok i  => i.immediate.map BitVec.toInt
  | .err _ => none

/-! ### Ill-formed terms, one for each check -/

theorem test_branch_immediate_odd : (Instr.branch0 1 2 3).wellFormed = false := by decide
theorem test_branch_error_row_immediate_odd : (Instr.branch3 1 2 1).wellFormed = false := by decide
theorem test_jal_immediate_odd : (Instr.jal 1 1).wellFormed = false := by decide
theorem test_auipc_low_bits_set : (Instr.auipc 5 0x800).wellFormed = false := by decide
theorem test_lui_low_bits_set : (Instr.lui 5 0x12345001).wellFormed = false := by decide
theorem test_op0nz_funct7_zero : (Instr.op0nz 1 2 3 0).wellFormed = false := by decide
theorem test_op5nz_funct7_zero : (Instr.op5nz 1 2 3 0).wellFormed = false := by decide

/-! ### Decoding of every class, from words written field by field (R82 to R87), the words of V3 to V6 -/

theorem test_words_load :
    decodeWord 0b111111111111_00110_000_00101_0000011#32 = .ok (.load0 5 6 0xFFF) ∧
    decodeWord 0b000000000010_01000_001_00111_0000011#32 = .ok (.load1 7 8 2) ∧
    decodeWord 0b000000001000_00010_010_01010_0000011#32 = .ok (.load2 10 2 8) ∧
    decodeWord 0b011111111111_01100_100_01011_0000011#32 = .ok (.load4 11 12 2047) ∧
    decodeWord 0b100000000000_01110_101_01101_0000011#32 = .ok (.load5 13 14 0x800) ∧
    decodeWord 0b000000000000_00001_011_00001_0000011#32 = .ok (.load3 1 1 0) ∧
    decodeWord 0b000000000000_00001_110_00001_0000011#32 = .ok (.load6 1 1 0) ∧
    decodeWord 0b000000000000_00001_111_00001_0000011#32 = .ok (.load7 1 1 0) := by decide

theorem test_words_store :
    decodeWord 0b1111111_00101_00110_000_11111_0100011#32 = .ok (.store0 6 5 0xFFF) ∧
    decodeWord 0b0000000_00111_01000_001_00010_0100011#32 = .ok (.store1 8 7 2) ∧
    decodeWord 0b0000000_01010_00010_010_01000_0100011#32 = .ok (.store2 2 10 8) ∧
    decodeWord 0b0000000_00001_00001_011_00000_0100011#32 = .ok (.store3 1 1 0) ∧
    decodeWord 0b0000000_00001_00001_100_00000_0100011#32 = .ok (.store4 1 1 0) ∧
    decodeWord 0b0000001_00001_00001_101_00000_0100011#32 = .ok (.store5 1 1 32) ∧
    decodeWord 0b0000000_00001_00001_110_00100_0100011#32 = .ok (.store6 1 1 4) ∧
    decodeWord 0b0000000_00001_00001_111_00000_0100011#32 = .ok (.store7 1 1 0) := by decide

theorem test_words_whole_opcode :
    decodeWord 0b000011111111_00000_000_00000_0001111#32 = .ok (.miscMem 0 0 0 255) ∧
    decodeWord 0b00010010001101000101_00101_0010111#32 = .ok (.auipc 5 0x12345000) ∧
    decodeWord 0b11111111111111111111_01010_0110111#32 = .ok (.lui 10 0xFFFFF000) ∧
    decodeWord 0b000000010000_00101_011_00001_1100111#32 = .ok (.jalr 1 5 3 16) ∧
    decodeWord 0b0_0000000100_0_00000000_00001_1101111#32 = .ok (.jal 1 8) ∧
    decodeWord 0b0_0000000000_1_00000000_00000_1101111#32 = .ok (.jal 0 2048) ∧
    decodeWord 0b001100000101_00101_001_00000_1110011#32 = .ok (.system 0 5 1 773) := by decide

theorem test_words_opImm :
    decodeWord 0b000000000101_00000_000_01010_0010011#32 = .ok (.opImm0 10 0 5) ∧
    decodeWord 0b000000000011_00110_001_00101_0010011#32 = .ok (.opImm1 5 6 3) ∧
    decodeWord 0b111111111111_00110_010_00101_0010011#32 = .ok (.opImm2 5 6 0xFFF) ∧
    decodeWord 0b000000000001_00110_011_00101_0010011#32 = .ok (.opImm3 5 6 1) ∧
    decodeWord 0b111111111111_00110_100_00101_0010011#32 = .ok (.opImm4 5 6 0xFFF) ∧
    decodeWord 0b010000000011_00110_101_00101_0010011#32 = .ok (.opImm5 5 6 1027) ∧
    decodeWord 0b000011110000_00110_110_00101_0010011#32 = .ok (.opImm6 5 6 240) ∧
    decodeWord 0b011111111111_00110_111_00101_0010011#32 = .ok (.opImm7 5 6 2047) := by decide

theorem test_words_op :
    decodeWord 0b0000000_01100_01011_000_01010_0110011#32 = .ok (.op0z 10 11 12) ∧
    decodeWord 0b0100000_01100_01011_000_01010_0110011#32 = .ok (.op0nz 10 11 12 32) ∧
    decodeWord 0b0100000_01100_01011_001_01010_0110011#32 = .ok (.op1 10 11 12 32) ∧
    decodeWord 0b0000000_01100_01011_010_01010_0110011#32 = .ok (.op2 10 11 12 0) ∧
    decodeWord 0b0000000_01100_01011_011_01010_0110011#32 = .ok (.op3 10 11 12 0) ∧
    decodeWord 0b0000000_01100_01011_100_01010_0110011#32 = .ok (.op4 10 11 12 0) ∧
    decodeWord 0b0000000_01100_01011_101_01010_0110011#32 = .ok (.op5z 10 11 12) ∧
    decodeWord 0b0000001_01100_01011_101_01010_0110011#32 = .ok (.op5nz 10 11 12 1) ∧
    decodeWord 0b0000000_01100_01011_110_01010_0110011#32 = .ok (.op6 10 11 12 0) ∧
    decodeWord 0b0000001_01100_01011_111_01010_0110011#32 = .ok (.op7 10 11 12 1) := by decide

theorem test_words_branch :
    decodeWord 0b0_000000_01011_01010_000_0100_0_1100011#32 = .ok (.branch0 10 11 8) ∧
    decodeWord 0b1_111111_00000_01010_001_1110_1_1100011#32 = .ok (.branch1 10 0 0x1FFC) ∧
    decodeWord 0b0_111111_00110_00101_100_1111_1_1100011#32 = .ok (.branch4 5 6 4094) ∧
    decodeWord 0b1_000000_00110_00101_101_0000_0_1100011#32 = .ok (.branch5 5 6 0x1000) ∧
    decodeWord 0b0_000000_00110_00101_110_0000_1_1100011#32 = .ok (.branch6 5 6 2048) ∧
    decodeWord 0b1_111111_00110_00101_111_1111_1_1100011#32 = .ok (.branch7 5 6 0x1FFE) ∧
    decodeWord 0b0_000000_00001_00001_010_0000_0_1100011#32 = .ok (.branch2 1 1 0) ∧
    decodeWord 0b0_000000_00001_00001_011_0000_0_1100011#32 = .ok (.branch3 1 1 0) := by decide

/-- V7: words of no class. -/
theorem test_words_unknown_opcode :
    [0xFFFFFFFF#32, 0x00000000#32, 0x00000001#32, 0x0000007F#32, 0x00000053#32, 0x0000002F#32, 0x0000001B#32].map
      decodeWord =
    [0b1111111#7, 0b0000000#7, 0b0000001#7, 0b1111111#7, 0b1010011#7, 0b0101111#7, 0b0011011#7].map
      (fun o => .error (.unknownOpcode o)) := by decide

/-- Bytes: little-endian, rejected by name when fewer than four are left (R45, R50, R51). -/
theorem test_bytes :
    decodeBytes [0x13, 0x05, 0x50, 0x00, 0xAA] = .ok (.opImm0 10 0 5, [0xAA]) ∧
    decodeBytes [0x13, 0x05, 0x50] = .error (.tooFewBytes 3) ∧
    decodeTableWord 32 0x00500513 = some (.opImm0 10 0 5) := by decide

/-! ### V1: one immediate bit at a time, bits 7 to 31 -/

theorem test_v1_I :
    (List.range' 7 25).map (fun b => immediateInt (decode .absentAsZero (0x00000013#32 ||| 1#32 <<< b))) =
    (List.replicate 13 0 ++ [1, 2, 4, 8, 16, 32, 64, 128, 256, 512, 1024, -2048]).map some := by decide

theorem test_v1_S :
    (List.range' 7 25).map (fun b => immediateInt (decode .absentAsZero (0x00000023#32 ||| 1#32 <<< b))) =
    [1, 2, 4, 8, 16, 0, 0].map some ++ [none] ++
      (List.replicate 10 0 ++ [32, 64, 128, 256, 512, 1024, -2048]).map some := by decide

theorem test_v1_B :
    (List.range' 7 25).map (fun b => immediateInt (decode .absentAsZero (0x00000063#32 ||| 1#32 <<< b))) =
    [2048, 2, 4, 8, 16, 0].map some ++ [none] ++
      (List.replicate 11 0 ++ [32, 64, 128, 256, 512, 1024, -4096]).map some := by decide

theorem test_v1_U :
    (List.range' 7 25).map (fun b => immediateInt (decode .absentAsZero (0x00000037#32 ||| 1#32 <<< b))) =
    (List.replicate 5 0 ++ [4096, 8192, 16384, 32768, 65536, 131072, 262144, 524288, 1048576, 2097152] ++
      [4194304, 8388608, 16777216, 33554432, 67108864, 134217728, 268435456, 536870912, 1073741824] ++
      [-2147483648]).map some := by decide

theorem test_v1_J :
    (List.range' 7 25).map (fun b => immediateInt (decode .absentAsZero (0x0000006F#32 ||| 1#32 <<< b))) =
    (List.replicate 5 0 ++ [4096, 8192, 16384, 32768, 65536, 131072, 262144, 524288, 2048] ++
      [2, 4, 8, 16, 32, 64, 128, 256, 512, 1024, -1048576]).map some := by decide

/-! ### One step of each kind -/

/-- S1: the first word after reset. -/
theorem test_step_addi :
    nextOf (step (State.withFetchWord State.reset 32 0x00500513)) =
      some { State.reset with replies := [.decoded (.ok addi5)] } := by decide

/-- S2: the unmapped opcode. -/
theorem test_step_unknown_opcode :
    nextOf (step (State.withFetchWord State.reset 32 0xFFFFFFFF)) =
      some { State.reset with replies := [.decoded (.err (.unsupportedOpcode (.unknownOpcode 127)))] } := by decide

/-- R205 and the note after R207: `srai` under the two settings of the key. -/
theorem test_srai_under_both_keys :
    (decode .absentAsZero 0x40335293#32).decision = some (.I, .opImm, .INT, 14) ∧
    (decode .word31_25 0x40335293#32).decision = some (.I, .opImm, .INT, 13) := by decide

/-- Program D: the error is annotated and no image is returned. -/
theorem test_step_abort :
    (nextOf (step (midLoad [] [0x0000B083#32]))).map (fun s => (s.loading, s.replies, s.loader)) =
      some (false,
        [.loaded (.err (.decoder (.unsupportedOpcode (.noMicroOp .load (some 3) none)) 0 1 4 0x0000B083#32))],
        Loader.initial) := by decide

/-- A decoded word is appended at the current address. -/
theorem test_step_append :
    (nextOf (step (midLoad [] [0x0000006F#32]))).map (fun s => (s.words, s.loader.image)) =
      some ([], [(0, [addi5, shapeJ 0b1101111 .jal .BRU 8 0 0])]) := by decide

/-- A repeated header is reported; the segment stays one (R47). -/
theorem test_step_duplicate_header :
    (nextOf (step (midLoad (text ["@0"]) []))).map (·.loader) =
      some { image := [(0, [addi5])], current := some 0, diags := [.duplicateAddress 0] } := by decide

/-- R131, R251, R254: lengths other than 32. -/
theorem test_wrong_length :
    [0, 16, 31, 33].map (fun n => decodeBits defaultTables .absentAsZero (List.replicate n true)) =
      [0, 16, 31, 33].map (fun n => .err (.invalidInstruction n)) := by decide

/-- R5: the string is written most significant bit first. -/
theorem test_bit_string : wordOfBits (bitString 0x00500513#32) = some 0x00500513#32 := by decide

/-! ### The loader on the texts of 95_test_vectors.md Parts 1 and 3 -/

theorem test_load_S1 : load defaultConfig (text ["@0", "13 05 50 00"]) = .ok [(0, [addi5])] [] := by decide

theorem test_load_S3 :
    load defaultConfig (text ["@0", "13 05 50"]) = .err (.fileFormat 2 (.tokenCount 3)) := by decide

theorem test_load_S4 :
    load defaultConfig (text ["@0", "13 05 50 00", "@0", "13 05 50 00"]) =
      .ok [(0, [addi5, addi5])] [.duplicateAddress 0] := by decide

theorem test_load_before_header :
    load defaultConfig (text ["13 05 50 00"]) = .err (.fileFormat 1 .beforeHeader) := by decide

theorem test_load_blank_line :
    load defaultConfig (text ["@0", "", "13 05 50 00"]) = .err (.fileFormat 2 (.tokenCount 0)) ∧
    load { defaultConfig with blankLinePolicy := .skip } (text ["@0", "", "13 05 50 00"]) =
      .ok [(0, [addi5])] [] := by decide

theorem test_load_bad_tokens :
    load defaultConfig (text ["@0", "13 05 5 00"]) = .err (.fileFormat 2 (.badToken ['5'])) ∧
    load defaultConfig (text ["@0", "13 05 50 0g 83 b0 00 00"]) = .err (.fileFormat 2 (.badToken ['0', 'g'])) ∧
    load defaultConfig (text ["@0", "83 b0 00 00 13 05 50"]) = .err (.fileFormat 2 (.tokenCount 7)) := by decide

theorem test_load_upper_case :
    load defaultConfig (text ["@0", "FF FF FF FF"]) =
      .err (.decoder (.unsupportedOpcode (.unknownOpcode 127)) 0 0 0 0xFFFFFFFF#32) := by decide

theorem test_load_bad_payloads :
    load defaultConfig (text ["@-4", "13 05 50 00"]) = .err (.addressParse 1 ['-', '4']) ∧
    load defaultConfig (text ["@"]) = .err (.addressParse 1 []) ∧
    load defaultConfig (text ["@0x10"]) = .err (.addressParse 1 ['0', 'x', '1', '0']) := by decide

theorem test_load_payloads :
    load defaultConfig (text ["@ 12 ", "13 05 50 00"]) = .ok [(12, [addi5])] [] ∧
    load defaultConfig (text ["@007", "13 05 50 00"]) = .ok [(7, [addi5])] [] ∧
    load defaultConfig (text ["@4294967296", "6f 00 00 00"]) =
      .ok [(4294967296, [shapeJ 0b1101111 .jal .BRU 8 0 0])] [] := by decide

theorem test_load_empty_segment :
    load defaultConfig (text ["@0", "@0"]) = .ok [(0, [])] [.duplicateAddress 0] := by decide

/-- R55: overlapping segments are not noticed. -/
theorem test_load_overlap :
    load defaultConfig (text ["@0", "13 05 50 00 13 05 50 00", "@4", "13 05 50 00"]) =
      .ok [(0, [addi5, addi5]), (4, [addi5])] [] := by decide

/-- Program C, with the keys in the order of first appearance and the words of 16 in the order met. -/
theorem test_load_program_C :
    load defaultConfig (text ["@16", "0f 00 f0 0f 73 00 00 00", "@32", "97 12 00 00", "@16", "73 00 10 00"]) =
      .ok [(16, [shapeI 0b0001111 .miscMem .INT 0 0 0 0 255, shapeI 0b1110011 .system .INT 9 0 0 0 0,
                 shapeI 0b1110011 .system .INT 9 0 0 0 1]),
           (32, [shapeU 0b0010111 .auipc .INT 0 5 4096])] [.duplicateAddress 16] := by decide

/-- R266: a decoder error names address, offset and kind, another error its kind. -/
theorem test_command_line :
    commandLineEnd (load defaultConfig (text ["@8", "FF FF FF FF"])) =
      .failed .unsupportedOpcode (some 8) (some 0) ∧
    commandLineEnd (load defaultConfig (text ["@"])) = .failed .addressParse none none ∧
    commandLineEnd (load defaultConfig (text ["@8"])) = .handOff [(8, [])] := by decide

/-! ### Witnesses: each statement's hypotheses are met -/

theorem witness_DecodeOfEncodeGivesTheInstruction :
    (Instr.branch6 5 6 2048).wellFormed = true ∧ (Instr.jal 1 0x100000).wellFormed = true ∧
    (Instr.lui 10 0xFFFFF000).wellFormed = true ∧ (Instr.op5nz 31 0 1 127).wellFormed = true := by decide

theorem witness_EncodeOfDecodeGivesTheWord :
    decodeWord 0x8062D063#32 = .ok (.branch5 5 6 0x1000) ∧ encode (.branch5 5 6 0x1000) = 0x8062D063#32 := by decide

theorem witness_BytesOfAnInstructionDecodeToIt :
    (Instr.store2 2 10 0xFFF).wellFormed = true ∧ bytesOf (encode (.store2 2 10 8)) = [0x23, 0x24, 0xA1, 0x00] := by
  decide

/-- Each case of the two statements about the table's rows is met. -/
theorem witness_FirstFittingRow :
    rowOf 0xFFFFFFFF#32 = none ∧ (rowOf 0x0000B083#32).map (·.result) = some none ∧
    (rowOf 0x40C58533#32).map (·.mnemonic) = some "OP.0.nz" := by decide

theorem witness_OnlyWrongLengthIsInvalidInstruction :
    ([true] : List Bool).length ≠ 32 ∧
    decodeBits defaultTables .absentAsZero [true] = .err (.invalidInstruction 1) := by decide

theorem witness_UnknownOpcodeIsUnsupported :
    (∀ m ∈ MajorOperation.all, opcodeOf m ≠ (0x00000053#32).extractLsb' 0 7) ∧
    (0xFFFFFFFE#32).extractLsb' 0 2 ≠ 3 := by decide

theorem witness_AbsentMicroOpIsUnsupported :
    (0x0010C023#32).extractLsb' 0 7 = opcodeOf .store ∧ (0x0010C023#32).extractLsb' 12 3 ∈ absentFunct3 .store ∧
    (0x00A12423#32).extractLsb' 0 7 = opcodeOf .store ∧ (0x00A12423#32).extractLsb' 12 3 ∉ absentFunct3 .store := by
  decide

/-- A successful decode in every format: for RegisterAndFunctFieldsByFormat, FieldPresenceByFormat, ImmediateByFormat and
ExecutionUnitByMajorAlone. -/
theorem witness_decode_in_every_format :
    decodeWith defaultTables .absentAsZero 0x00C58533#32 = .ok (shapeR 0b0110011 .op .INT 0 10 11 12 0 0) ∧
    decodeWith defaultTables .absentAsZero 0x80075683#32 = .ok (shapeI 0b0000011 .load .LSU 6 13 14 5 (-2048)) ∧
    decodeWith defaultTables .absentAsZero 0x7EA12FA3#32 = .ok (shapeS 0b0100011 .store .LSU 12 2 10 2 2047) ∧
    decodeWith defaultTables .absentAsZero 0x8062D063#32 = .ok (shapeB 0b1100011 .branch .BRU 3 5 6 5 (-4096)) ∧
    decodeWith defaultTables .absentAsZero 0x80000297#32 = .ok (shapeU 0b0010111 .auipc .INT 0 5 (-2147483648)) ∧
    decodeWith defaultTables .absentAsZero 0x7FFFF0EF#32 = .ok (shapeJ 0b1101111 .jal .BRU 8 1 1048574) := by decide

theorem witness_ImmediateNegativeExactlyWhenBit31 :
    (shapeI 0b0000011 .load .LSU 6 13 14 5 (-2048)).immediate = some ((-2048#12).signExtend 32) ∧
    (0x80075683#32).getLsbD 31 = true ∧
    (shapeJ 0b1101111 .jal .BRU 8 1 1048574).immediate = some ((1048574#21).signExtend 32) ∧
    (0x7FFFF0EF#32).getLsbD 31 = false := by decide

theorem witness_PrintedMicroOpTableIsTheFunction :
    MajorOperation.lui ∈ [MajorOperation.auipc, .lui, .jal] ∧
    lookupMicroOp defaultTables .lui none 0 = some 9 := by decide

/-- The three clauses: funct3 0, funct3 5, and any other word. -/
theorem witness_OpimmKeySelectsTheColumn :
    (0xFF010113#32).extractLsb' 0 7 = 0b0010011#7 ∧ (0xFF010113#32).extractLsb' 12 3 = 0 ∧
    (0x40335293#32).extractLsb' 0 7 = 0b0010011#7 ∧ (0x40335293#32).extractLsb' 12 3 = 5 ∧
    ¬ ((0x7E331293#32).extractLsb' 0 7 = 0b0010011#7 ∧
      ((0x7E331293#32).extractLsb' 12 3 = 0 ∨ (0x7E331293#32).extractLsb' 12 3 = 5)) := by decide

/-- `sub` and the word the M extension would use for `mul` (R218). -/
theorem witness_DecisionDependsOnTestedBitsOnly : AgreeOnTestedBits 0x40C58533#32 0x02C58533#32 := by
  unfold AgreeOnTestedBits; decide

theorem witness_LoadClassResults :
    [0xFFF30283#32, 0x00241383#32, 0x00812503#32, 0x7FF64583#32, 0x80075683#32].map
      (fun w => (w.extractLsb' 0 7, w.extractLsb' 12 3)) =
    [(0b0000011#7, 0b000#3), (0b0000011#7, 0b001#3), (0b0000011#7, 0b010#3), (0b0000011#7, 0b100#3),
      (0b0000011#7, 0b101#3)] := by decide

theorem witness_StoreClassResults :
    [0xFE530FA3#32, 0x00741123#32, 0x00A12423#32].map (fun w => (w.extractLsb' 0 7, w.extractLsb' 12 3)) =
    [(0b0100011#7, 0b000#3), (0b0100011#7, 0b001#3), (0b0100011#7, 0b010#3)] := by decide

theorem witness_WholeOpcodeClassResults :
    [0xFFFFF00F#32, 0x0102B0E7#32, 0x30529073#32].map (fun w => w.extractLsb' 0 7) =
    [0b0001111#7, 0b1100111#7, 0b1110011#7] := by decide

theorem witness_UpperAndJumpClassResults :
    [0x80000297#32, 0xFFFFF537#32, 0x800000EF#32].map (fun w => w.extractLsb' 0 7) =
    [0b0010111#7, 0b0110111#7, 0b1101111#7] := by decide

theorem witness_OpImmClassResults :
    [0x00500513#32, 0x00331293#32, 0xFFF32293#32, 0x00133293#32, 0xFFF34293#32, 0x40335293#32, 0x0F036293#32,
      0x7FF37293#32].map (fun w => (w.extractLsb' 0 7, w.extractLsb' 12 3)) =
    [0, 1, 2, 3, 4, 5, 6, 7].map (fun f => (0b0010011#7, f)) := by decide

/-- The ten clauses, with funct7 zero and not where it matters. -/
theorem witness_OpClassResults :
    [0x00C58533#32, 0xFEC58533#32, 0x40C59533#32, 0x00C5A533#32, 0x00C5B533#32, 0x00C5C533#32, 0x00C5D533#32,
      0x02C5D533#32, 0x00C5E533#32, 0x02C5F533#32].map
      (fun w => (w.extractLsb' 0 7, w.extractLsb' 12 3, w.extractLsb' 25 7)) =
    [(0, 0), (0, 127), (1, 32), (2, 0), (3, 0), (4, 0), (5, 0), (5, 1), (6, 0), (7, 1)].map
      (fun p => (0b0110011#7, p)) := by decide

theorem witness_BranchClassResults :
    [0x00B50463#32, 0xFE051EE3#32, 0x7E62CFE3#32, 0x8062D063#32, 0x0062E0E3#32, 0xFE62FFE3#32].map
      (fun w => (w.extractLsb' 0 7, w.extractLsb' 12 3)) =
    [0, 1, 4, 5, 6, 7].map (fun f => (0b1100011#7, f)) := by decide

theorem witness_ErrorClassResults :
    (0x0000B083#32).extractLsb' 0 7 = 0b0000011#7 ∧ (0x0000B083#32).extractLsb' 12 3 ∈ [3#3, 6#3, 7#3] ∧
    (0x0010F023#32).extractLsb' 0 7 = 0b0100011#7 ∧
    (0x0010F023#32).extractLsb' 12 3 ∈ [3#3, 4#3, 5#3, 6#3, 7#3] ∧
    (0x0010B063#32).extractLsb' 0 7 = 0b1100011#7 ∧ (0x0010B063#32).extractLsb' 12 3 ∈ [2#3, 3#3] := by decide

/-- The two kinds of state in which every class completes: for the seven statements of completion. -/
theorem witness_completion :
    State.reset.loading = false ∧ (midLoad [] []).loading = true ∧ (midLoad [] []).loader.current = some 0 := by decide

/-- The three cases of the frame. -/
theorem witness_FrameOfEveryClass :
    State.reset.loading = false ∧
    nextOf (exec (.jal 0 0) State.reset) =
      some (State.reset.reply (.decoded (.ok (shapeJ 0b1101111 .jal .BRU 8 0 0)))) ∧
    (midLoad [] []).loading = true ∧
    (nextOf (exec (.jal 0 0) (midLoad [] []))).map (·.loading) = some true ∧
    (nextOf (exec (.load3 1 1 0) (midLoad [] []))).map (·.loading) = some false := by decide

theorem witness_EveryClassAgreesWithDecode :
    decodeWord 0x00500513#32 = .ok (.opImm0 10 0 5) ∧ decodeWord 0x00000053#32 = .error (.unknownOpcode 0b1010011) := by
  decide

/-- The four clauses. -/
theorem witness_StepRunsTheDecodedInstruction :
    (withWords [0x00500513#32]).words = 0x00500513#32 :: [] ∧ decodeWord 0x00500513#32 = .ok (.opImm0 10 0 5) ∧
    (withWords [0#32]).words = 0#32 :: [] ∧ decodeWord 0#32 = .error (.unknownOpcode 0) ∧
    (midLoad [] []).words = [] ∧ (midLoad [] []).loading = true ∧
    State.reset.words = [] ∧ State.reset.loading = false := by decide

/-- Both clauses. -/
theorem witness_LoaderDecodesAndAppends :
    (midLoad [] [0x00500513#32, 0#32]).words = 0x00500513#32 :: [0#32] ∧
    (midLoad [] [0x00500513#32, 0#32]).loading = true ∧
    (midLoad [] [0x00500513#32, 0#32]).loader.current = some 0 ∧
    decode (midLoad [] []).cfg.opimmF7Key 0x00500513#32 = .ok addi5 ∧
    decode (midLoad [] []).cfg.opimmF7Key 0#32 = .err (.unsupportedOpcode (.unknownOpcode 0)) := by decide

/-- The source's example S1 as a bit string, character by character (R5). -/
theorem witness_DecodeCallIsAnswered_spells :
    Spells ([0, 0, 0, 0, 0, 0, 0, 0, 0, 1, 0, 1, 0, 0, 0, 0].map (· == 1) ++
      [0, 0, 0, 0, 0, 1, 0, 1, 0, 0, 0, 1, 0, 0, 1, 1].map (· == 1)) 0x00500513#32 := by
  unfold Spells; decide

theorem witness_DecodeCallIsAnswered :
    (withCall (.decode (bitString 0x00500513#32))).loading = false ∧
    (withCall (.decode (bitString 0x00500513#32))).words = [] ∧
    (withCall (.decode (bitString 0x00500513#32))).calls = .decode (bitString 0x00500513#32) :: [] := by decide

theorem witness_DecodeCallsAreIndependent :
    (withCall (.decode [])).loading = false ∧ (withCall (.decode [])).words = [] ∧
    (withCall (.decode [])).calls = [([] : List Bool)].map Call.decode := by decide

/-- For MachineAnswersLoadWithRule49 and LoadStartsFromTheInitialState. -/
theorem witness_load_call :
    (withCall (.load (text ["@0", "13 05 50 00"]))).loading = false ∧
    (withCall (.load (text ["@0", "13 05 50 00"]))).words = [] ∧
    (withCall (.load (text ["@0", "13 05 50 00"]))).calls = .load (text ["@0", "13 05 50 00"]) :: [] := by decide

/-- A state in the middle of a load that meets the invariant and has a next state. -/
theorem witness_StepKeepsTheInvariant :
    (midLoad [] [0x00500513#32]).Inv ∧ (nextOf (step (midLoad [] [0x00500513#32]))).isSome = true := by
  refine ⟨⟨⟨⟨by decide, ?_⟩, ?_, (fun _ h => nomatch h)⟩, (fun _ h => nomatch h), (fun h => nomatch h), ?_⟩, by decide⟩
  · intro p hp i hi
    simp only [midLoad, List.mem_singleton] at hp
    subst hp
    simp only [List.mem_singleton] at hi
    exact ⟨0x00500513#32, by subst hi; decide⟩
  · intro a h; cases h; decide
  · decide

/-- A next state from reset. -/
theorem witness_StepKeepsSettingsAndReplies :
    nextOf (step (withCall (.decode [true]))) =
      some { State.reset with replies := [.decoded (.err (.invalidInstruction 1))] } := by decide

/-- A load that goes on, by a header and by a word. -/
theorem witness_SegmentsAreAppendOnly :
    (midLoad (text ["@8"]) []).loading = true ∧
    (nextOf (step (midLoad (text ["@8"]) []))).map (fun s => (s.loading, Memory.keys s.loader.image)) =
      some (true, [0, 8]) ∧
    (nextOf (step (midLoad [] [0x00500513#32]))).map (fun s => (s.loading, Memory.segment s.loader.image 0)) =
      some (true, [addi5, addi5]) := by decide

/-- A text that fails at its first line, and one that fails on a word: for LaterLinesAreNotExamined and
CommandLineEndFollowsTheLoad. -/
theorem witness_load_err :
    load defaultConfig (text ["@-4"]) = .err (.addressParse 1 ['-', '4']) ∧
    load defaultConfig (text ["@8", "13 05 50 00 83 b0 00 00"]) =
      .err (.decoder (.unsupportedOpcode (.noMicroOp .load (some 3) none)) 8 1 4 0x0000B083#32) := by decide

theorem witness_PayloadIsDecimal : parseDecimal "0070".toList = some 70 ∧ parseDecimal "0x10".toList = none := by decide

/-- A repeated header, a new one, and a payload that is no decimal. -/
theorem witness_AddressHeaderSelectsTheSegment :
    (midLoad (text ["@0"]) []).loading = true ∧ (midLoad (text ["@0"]) []).words = [] ∧
    (midLoad (text ["@0"]) []).lines = "@0".toList :: [] ∧ trim "@0".toList = '@' :: ['0'] ∧
    parseDecimal (trim ['0']) = some 0 ∧ 0 ∈ Memory.keys (midLoad (text ["@0"]) []).loader.image ∧
    trim " @ 12 ".toList = '@' :: [' ', '1', '2'] ∧ parseDecimal (trim [' ', '1', '2']) = some 12 ∧
    12 ∉ Memory.keys (midLoad (text [" @ 12 "]) []).loader.image ∧
    trim "@".toList = '@' :: [] ∧ parseDecimal (trim []) = none := by decide

theorem witness_TokenIsTwoHexDigits :
    parseByte ['f', 'F'] = some 255 ∧ parseByte ['5'] = none ∧ parseByte ['0', '1', '3'] = none ∧
    parseByte ['0', 'g'] = none := by decide

/-- Digits of each range at its ends. -/
theorem witness_TokenIsTwoHexDigits_digits :
    HexDigitIs '0' 0 ∧ HexDigitIs '9' 9 ∧ HexDigitIs 'a' 10 ∧ HexDigitIs 'f' 15 ∧ HexDigitIs 'A' 10 ∧
    HexDigitIs 'F' 15 ∧ ¬ HexDigitIs 'g' 16 := by
  unfold HexDigitIs; decide

/-- White space before a run, a run before white space, and the edges of the white-space ranges. -/
theorem witness_TrimAndTokensFollowTheWhiteSpace :
    AllBlank [' ', '\t'] ∧ NoneBlank ['1', '3'] ∧ (∀ c, [' ', '0'].head? = some c → isBlank c = true) ∧
    trim [' ', '\t', '@', ' ', '1', '\n'] = ['@', ' ', '1'] ∧ tokens [' ', '1', '3', ' ', '0'] = [['1', '3'], ['0']] ∧
    isBlank (Char.ofNat 8) = false ∧ isBlank (Char.ofNat 9) = true ∧ isBlank (Char.ofNat 13) = true ∧
    isBlank (Char.ofNat 14) = false := by
  refine ⟨by simp [AllBlank, isBlank], by simp [NoneBlank, isBlank], ?_, rfl, rfl, rfl, rfl, rfl, rfl⟩
  intro c h; cases h; rfl

/-- The text of each clause: three tokens; a bad token after good ones; four good tokens. -/
theorem witness_DataLineChecksInOrder_text :
    trim "13 05 50".toList = '1' :: "3 05 50".toList ∧ ¬ 4 ∣ (tokens ('1' :: "3 05 50".toList)).length ∧
    tokens ('1' :: "3 05 50 0g".toList) = [['1', '3'], ['0', '5'], ['5', '0']] ++ ['0', 'g'] :: [] ∧
    (∀ g ∈ [['1', '3'], ['0', '5'], ['5', '0']], parseByte g ≠ none) ∧ parseByte ['0', 'g'] = none := by decide

theorem witness_DataLineChecksInOrder_valid :
    (tokens ('1' :: "3 05 50 00".toList)).map parseByte = [0x13#8, 0x05#8, 0x50#8, 0x00#8].map some := by decide

/-- The states: before any header and after one. -/
theorem witness_DataLineChecksInOrder_state :
    (startLoad (text ["13 05 50 00"])).loading = true ∧ (startLoad (text ["13 05 50 00"])).words = [] ∧
    (startLoad (text ["13 05 50 00"])).lines = "13 05 50 00".toList :: [] ∧
    (startLoad (text ["13 05 50 00"])).loader.current = none ∧
    (midLoad (text ["13 05 50 00"]) []).loader.current ≠ none := by decide

/-- Both policies, an empty line and one of white space. -/
theorem witness_BlankLinePolicyIsKept :
    (startLoad [[], [' ', '\t']]).loading = true ∧ (startLoad [[], [' ', '\t']]).words = [] ∧
    (startLoad [[], [' ', '\t']]).lines = [] :: [[' ', '\t']] ∧ (∀ c ∈ [' ', '\t'], isBlank c = true) ∧
    (startLoad []).cfg.blankLinePolicy = .error ∧ (startLoadSkip []).cfg.blankLinePolicy = .skip :=
  ⟨rfl, rfl, rfl, by simp [isBlank], rfl, rfl⟩

/-- A text with a repeated header that loads, whose stream has three words for address 16: for LoadingPreservesOrder and
KeysAndDiagnosticsFollowTheHeaders. -/
theorem witness_load_ok :
    load defaultConfig (text ["@16", "0f 00 f0 0f 73 00 00 00", "@16", "73 00 10 00"]) =
      .ok [(16, [shapeI 0b0001111 .miscMem .INT 0 0 0 0 255, shapeI 0b1110011 .system .INT 9 0 0 0 0,
                 shapeI 0b1110011 .system .INT 9 0 0 0 1])] [.duplicateAddress 16] ∧
    wordStream defaultConfig none 0 (text ["@16", "0f 00 f0 0f 73 00 00 00", "@16", "73 00 10 00"]) =
      [(16, 0x0FF0000F#32), (16, 0x00000073#32), (16, 0x00100073#32)] ∧
    headerAddresses defaultConfig none 0 (text ["@16", "0f 00 f0 0f 73 00 00 00", "@16", "73 00 10 00"]) = [16, 16] := by
  decide

end Sys2Proof.Machine.Tests
end

section
/-!
PROOF. A word and its class: the fields of each format put together again give the word, so encoding a word's
class gives the word back, and the class is well-formed.
-/

namespace Sys2Proof

/-- The fields of format I put together again (rule R83). -/
theorem encodeI_fields {w : Word} {m : MajorOperation} (h : opcodeField w = opcodeOf m) :
    encodeI m (funct3Field w) (rdField w) (rs1Field w) (immFieldI w) = w := by
  simp [encodeI, ← h, opcodeField, funct3Field, rdField, rs1Field, immFieldI]

/-- The fields of format R put together again (rule R82). -/
theorem encodeR_fields {w : Word} {m : MajorOperation} (h : opcodeField w = opcodeOf m) :
    encodeR m (funct3Field w) (rdField w) (rs1Field w) (rs2Field w) (funct7Field w) = w := by
  simp [encodeR, ← h, opcodeField, funct3Field, rdField, rs1Field, rs2Field, funct7Field]

/-- The fields of format S put together again (rule R84). -/
theorem encodeS_fields {w : Word} {m : MajorOperation} (h : opcodeField w = opcodeOf m) :
    encodeS m (funct3Field w) (rs1Field w) (rs2Field w) (immFieldS w) = w := by
  simp [encodeS, ← h, opcodeField, funct3Field, rs1Field, rs2Field, immFieldS]

/-- The fields of format B put together again (rule R85). -/
theorem encodeB_fields {w : Word} {m : MajorOperation} (h : opcodeField w = opcodeOf m) :
    encodeB m (funct3Field w) (rs1Field w) (rs2Field w) (immFieldB w) = w := by
  simp [encodeB, ← h, opcodeField, funct3Field, rs1Field, rs2Field, immFieldB]

/-- The fields of format U put together again, the written zeros left out (rule R86). -/
theorem encodeU_fields {w : Word} {m : MajorOperation} (h : opcodeField w = opcodeOf m) :
    encodeU m (rdField w) (immFieldU w) = w := by
  simp [encodeU, ← h, opcodeField, rdField, immFieldU]

/-- The fields of format J put together again (rule R87). -/
theorem encodeJ_fields {w : Word} {m : MajorOperation} (h : opcodeField w = opcodeOf m) :
    encodeJ m (rdField w) (immFieldJ w) = w := by
  simp [encodeJ, ← h, opcodeField, rdField, immFieldJ]

theorem funct3_cases (f : Funct3) :
    f = 0#3 ∨ f = 1#3 ∨ f = 2#3 ∨ f = 3#3 ∨ f = 4#3 ∨ f = 5#3 ∨ f = 6#3 ∨ f = 7#3 := by
  revert f; decide

theorem encode_classifyLoad {w : Word} (h : opcodeField w = opcodeOf .load) : encode (classifyLoad w) = w := by
  have hw := encodeI_fields h
  rcases funct3_cases (funct3Field w) with h3 | h3 | h3 | h3 | h3 | h3 | h3 | h3 <;>
    simpa [classifyLoad, h3, encode] using hw

theorem encode_classifyStore {w : Word} (h : opcodeField w = opcodeOf .store) : encode (classifyStore w) = w := by
  have hw := encodeS_fields h
  rcases funct3_cases (funct3Field w) with h3 | h3 | h3 | h3 | h3 | h3 | h3 | h3 <;>
    simpa [classifyStore, h3, encode] using hw

theorem encode_classifyBranch {w : Word} (h : opcodeField w = opcodeOf .branch) : encode (classifyBranch w) = w := by
  have hw := encodeB_fields h
  rcases funct3_cases (funct3Field w) with h3 | h3 | h3 | h3 | h3 | h3 | h3 | h3 <;>
    simpa [classifyBranch, h3, encode] using hw

theorem encode_classifyOpImm {w : Word} (h : opcodeField w = opcodeOf .opImm) : encode (classifyOpImm w) = w := by
  have hw := encodeI_fields h
  rcases funct3_cases (funct3Field w) with h3 | h3 | h3 | h3 | h3 | h3 | h3 | h3 <;>
    simpa [classifyOpImm, h3, encode] using hw

theorem encode_classifyOp {w : Word} (h : opcodeField w = opcodeOf .op) : encode (classifyOp w) = w := by
  have hw := encodeR_fields h
  rcases funct3_cases (funct3Field w) with h3 | h3 | h3 | h3 | h3 | h3 | h3 | h3 <;>
    by_cases h7 : funct7Field w = 0#7 <;> simpa [classifyOp, h3, h7, encode] using hw

/-- Encoding the class of a word of a known major operation gives the word back: no bit is dropped. -/
theorem encode_classify {w : Word} {m : MajorOperation} (h : opcodeField w = opcodeOf m) :
    encode (classify m w) = w := by
  cases m with
  | load => exact encode_classifyLoad h
  | store => exact encode_classifyStore h
  | branch => exact encode_classifyBranch h
  | opImm => exact encode_classifyOpImm h
  | op => exact encode_classifyOp h
  | jalr | system | miscMem => exact encodeI_fields h
  | auipc | lui => exact encodeU_fields h
  | jal => exact encodeJ_fields h

@[simp] theorem lowBitZero_immFieldB (w : Word) : lowBitZero (immFieldB w) = true := by
  simp [lowBitZero, immFieldB]

@[simp] theorem lowBitZero_immFieldJ (w : Word) : lowBitZero (immFieldJ w) = true := by
  simp [lowBitZero, immFieldJ]

@[simp] theorem lowTwelveZero_immFieldU (w : Word) : lowTwelveZero (immFieldU w) = true := by
  simp [lowTwelveZero, immFieldU]

/-- What a word is classified as has the written zero bits and the funct7 that its class asks for. -/
theorem wellFormed_classify (m : MajorOperation) (w : Word) : (classify m w).wellFormed = true := by
  cases m with
  | load => simp only [classify, classifyLoad]; split_ifs <;> rfl
  | store => simp only [classify, classifyStore]; split_ifs <;> rfl
  | branch => simp only [classify, classifyBranch]; split_ifs <;> exact lowBitZero_immFieldB w
  | opImm => simp only [classify, classifyOpImm]; split_ifs <;> rfl
  | op => simp only [classify, classifyOp]; split_ifs <;> simp_all [Instr.wellFormed]
  | jalr | system | miscMem => rfl
  | auipc | lui => exact lowTwelveZero_immFieldU w
  | jal => exact lowBitZero_immFieldJ w

end Sys2Proof
end

section
/-!
PROOF. `decode` of a word in terms of its format's record, `decode` of a class's own word in terms of its operands,
and that the class's meaning delivers exactly that.
-/

namespace Sys2Proof.Machine

/-- The record of a word, once its format, its major operation and its micro-op are known. -/
def recordAs (f : InstrFormat) (m : MajorOperation) (u : MicroOp) (w : Word) : Instruction :=
  { format := f, opcode := opcodeField w, rd := rdOf f w, rs1 := rs1Of f w, rs2 := rs2Of f w
    immediate := immediateOf f w, funct3 := funct3Of f w, funct7 := funct7Of f w
    majorOperation := m, executionUnit := executionUnit m, microOp := u }

section decodeWith
variable {T : Tables} {key : OpimmF7Key} {w : Word} {m : MajorOperation} {f : InstrFormat}

theorem decodeWith_of_unknown (h : majorOf T (opcodeField w) = none) :
    decodeWith T key w = .err (.unsupportedOpcode (.unknownOpcode (opcodeField w))) := by
  simp [decodeWith, formatAt, h]

theorem decodeWith_of_entry {u : MicroOp} (h : majorOf T (opcodeField w) = some m) (hf : T.formatOf m = f)
    (hu : lookupMicroOp T m (funct3Of f w) (funct7Key key (funct7Of f w) w) = some u) :
    decodeWith T key w = .ok (recordAs f m u w) := by
  subst hf
  simp [decodeWith, formatAt, h, hu, recordAs]

theorem decodeWith_of_noEntry (h : majorOf T (opcodeField w) = some m) (hf : T.formatOf m = f)
    (hu : lookupMicroOp T m (funct3Of f w) (funct7Key key (funct7Of f w) w) = none) :
    decodeWith T key w = .err (.unsupportedOpcode (.noMicroOp m (funct3Of f w) (funct7Of f w))) := by
  subst hf
  simp [decodeWith, formatAt, h, hu]

/-- A successful decode is the record of the word (rules R25, R142). -/
theorem record_of_decodeWith_ok {i : Instruction} (h : decodeWith T key w = .ok i) :
    ∃ m u, i = recordAs (T.formatOf m) m u w := by
  cases hm : majorOf T (opcodeField w) with
  | none => cases (decodeWith_of_unknown hm).symm.trans h
  | some m =>
    cases hu : lookupMicroOp T m (funct3Of (T.formatOf m) w) (funct7Key key (funct7Of (T.formatOf m) w) w) with
    | none => cases (decodeWith_of_noEntry hm rfl hu).symm.trans h
    | some u => cases (decodeWith_of_entry hm rfl hu).symm.trans h; exact ⟨m, u, rfl⟩

end decodeWith

theorem recordAs_presence (f : InstrFormat) (m : MajorOperation) (u : MicroOp) (w : Word) :
    (recordAs f m u w).presence = fieldPresence f := by
  cases f <;> rfl

/-- Settles O13: a successful decode is a record laid out by its format. -/
theorem fieldPresenceByFormat : Obligations.FieldPresenceByFormat := by
  intro T key w i h
  obtain ⟨m, u, rfl⟩ := record_of_decodeWith_ok h
  exact recordAs_presence _ m u w

theorem majorOf_default {w : Word} {m : MajorOperation} (h : opcodeField w = opcodeOf m) :
    majorOf defaultTables (opcodeField w) = some m := h ▸ find_opcodeOf m

/-- A format with funct3 and without funct7, and no micro-op for the key (rules R139, R253). -/
theorem decode_of_noEntry {key : OpimmF7Key} {w : Word} {m : MajorOperation} {f : InstrFormat} {f3 : Funct3}
    (ho : opcodeField w = opcodeOf m) (hf : formatOf m = f) (h3 : funct3Of f w = some f3) (h7 : funct7Of f w = none)
    (hu : lookupMicroOp defaultTables m (some f3) (funct7Key key none w) = none) :
    decode key w = .err (.unsupportedOpcode (.noMicroOp m (some f3) none)) := by
  rw [decode, decodeWith_of_noEntry (majorOf_default ho) hf (by rw [h3, h7, hu]), h3, h7]

section formats
variable {key : OpimmF7Key} {m : MajorOperation} {f3 : Funct3} {f7 : Funct7} {rd rs1 rs2 : RegIndex} {u : MicroOp}

theorem decode_encodeR_ok (hf : formatOf m = .R) (hu : lookupMicroOp defaultTables m (some f3) f7 = some u) :
    decode key (encodeR m f3 rd rs1 rs2 f7) =
      .ok (shapeR (opcodeOf m) m (executionUnit m) u rd rs1 rs2 f3 f7) := by
  have h := majorOf_default (encodeR_opcode m f3 rd rs1 rs2 f7)
  rw [decode, decodeWith_of_entry h hf (by simpa [funct3Of, funct7Of, funct7Key] using hu)]
  simp [recordAs, rdOf, rs1Of, rs2Of, immediateOf, funct3Of, funct7Of, shapeR]

theorem decode_encodeI_ok {imm : BitVec 12} (hf : formatOf m = .I)
    (hu : lookupMicroOp defaultTables m (some f3) (funct7Key key none (encodeI m f3 rd rs1 imm)) = some u) :
    decode key (encodeI m f3 rd rs1 imm) = .ok (shapeI (opcodeOf m) m (executionUnit m) u rd rs1 f3 imm) := by
  have h := majorOf_default (encodeI_opcode m f3 rd rs1 imm)
  rw [decode, decodeWith_of_entry h hf (by simpa [funct3Of, funct7Of] using hu)]
  simp [recordAs, rdOf, rs1Of, rs2Of, immediateOf, funct3Of, funct7Of, shapeI, sext32]

theorem decode_encodeS_ok {imm : BitVec 12} (hf : formatOf m = .S)
    (hu : lookupMicroOp defaultTables m (some f3) (funct7Key key none (encodeS m f3 rs1 rs2 imm)) = some u) :
    decode key (encodeS m f3 rs1 rs2 imm) = .ok (shapeS (opcodeOf m) m (executionUnit m) u rs1 rs2 f3 imm) := by
  have h := majorOf_default (encodeS_opcode m f3 rs1 rs2 imm)
  rw [decode, decodeWith_of_entry h hf (by simpa [funct3Of, funct7Of] using hu)]
  simp [recordAs, rdOf, rs1Of, rs2Of, immediateOf, funct3Of, funct7Of, shapeS, sext32]

theorem decode_encodeB_ok {imm : BitVec 13} (hi : lowBitZero imm = true) (hf : formatOf m = .B)
    (hu : lookupMicroOp defaultTables m (some f3) (funct7Key key none (encodeB m f3 rs1 rs2 imm)) = some u) :
    decode key (encodeB m f3 rs1 rs2 imm) = .ok (shapeB (opcodeOf m) m (executionUnit m) u rs1 rs2 f3 imm) := by
  have h := majorOf_default (encodeB_opcode m f3 rs1 rs2 imm)
  rw [decode, decodeWith_of_entry h hf (by simpa [funct3Of, funct7Of] using hu)]
  simp [recordAs, rdOf, rs1Of, rs2Of, immediateOf, encodeB_imm, hi, funct3Of, funct7Of, shapeB, sext32]

theorem decode_encodeU_ok {imm : BitVec 32} (hi : lowTwelveZero imm = true) (hf : formatOf m = .U)
    (hu : lookupMicroOp defaultTables m none (funct7Key key none (encodeU m rd imm)) = some u) :
    decode key (encodeU m rd imm) = .ok (shapeU (opcodeOf m) m (executionUnit m) u rd imm) := by
  have h := majorOf_default (encodeU_opcode m rd imm)
  rw [decode, decodeWith_of_entry h hf (by simpa [funct3Of, funct7Of] using hu)]
  simp [recordAs, rdOf, rs1Of, rs2Of, immediateOf, encodeU_imm, hi, funct3Of, funct7Of, shapeU, sext32]

theorem decode_encodeJ_ok {imm : BitVec 21} (hi : lowBitZero imm = true) (hf : formatOf m = .J)
    (hu : lookupMicroOp defaultTables m none (funct7Key key none (encodeJ m rd imm)) = some u) :
    decode key (encodeJ m rd imm) = .ok (shapeJ (opcodeOf m) m (executionUnit m) u rd imm) := by
  have h := majorOf_default (encodeJ_opcode m rd imm)
  rw [decode, decodeWith_of_entry h hf (by simpa [funct3Of, funct7Of] using hu)]
  simp [recordAs, rdOf, rs1Of, rs2Of, immediateOf, encodeJ_imm, hi, funct3Of, funct7Of, shapeJ, sext32]

end formats

@[simp] theorem upperRecord_eq_shapeU (m : MajorOperation) (u : MicroOp) (rd : RegIndex) (imm : BitVec 32) :
    upperRecord m u rd imm = shapeU (opcodeOf m) m .INT u rd imm := by
  simp [upperRecord, shapeU, sext32]

theorem funct7Field_encodeI (m : MajorOperation) (f3 : Funct3) (rd rs1 : RegIndex) (imm : BitVec 12) :
    funct7Field (encodeI m f3 rd rs1 imm) = imm.extractLsb' 5 7 := by
  simp [funct7Field, encodeI]

/-- The ALU rows with funct3 0 consult funct7 for zero (rule R140 (c)). -/
theorem lookup_alu_zero {m : MajorOperation} (hm : m = .opImm ∨ m = .op) (k : Funct7) :
    lookupMicroOp defaultTables m (some 0) k = some (if k = 0#7 then 0 else 1) := by
  rcases hm with rfl | rfl <;> by_cases hk : k = 0#7 <;>
    simp [lookupMicroOp, defaultTables, microOpTable, aluRows, UopRow.applies, Funct7Column.accepts, hk]

/-- So do those with funct3 5 (rule R140 (c)). -/
theorem lookup_alu_five {m : MajorOperation} (hm : m = .opImm ∨ m = .op) (k : Funct7) :
    lookupMicroOp defaultTables m (some 5) k = some (if k = 0#7 then 14 else 13) := by
  rcases hm with rfl | rfl <;> by_cases hk : k = 0#7 <;>
    simp [lookupMicroOp, defaultTables, microOpTable, aluRows, UopRow.applies, Funct7Column.accepts, hk]

/-- The column an OP-IMM class takes is the one its funct7 key fits (rule R141). -/
theorem opImmColumn_eq (key : OpimmF7Key) (f3 : Funct3) (rd rs1 : RegIndex) (imm : BitVec 12) (zero nonZero : MicroOp) :
    opImmColumn key imm zero nonZero =
      if funct7Key key none (encodeI .opImm f3 rd rs1 imm) = 0#7 then zero else nonZero := by
  cases key with
  | absentAsZero => rfl
  | word31_25 => rw [funct7Key, funct7Field_encodeI]; rfl

theorem next_deliver_ok {w : Word} {r : DecodeResult} {ins : Instruction} (s : State) (h : r = .ok ins) :
    (.next (accept ins s) : Host.Outcome State Fault Refusal) = .next (deliver w r s) := by rw [h]; rfl

theorem next_deliver_err {w : Word} {r : DecodeResult} {e : DecodeError} (s : State) (h : r = .err e) :
    (.next (raise w e s) : Host.Outcome State Fault Refusal) = .next (deliver w r s) := by rw [h]; rfl

/-- Class by class: the meaning of a well-formed term delivers what `decode` yields for the term's own word (rule R130
with files 41 to 44). -/
theorem exec_eq_deliver {i : Instr} (h : i.wellFormed = true) (s : State) :
    exec i s = .next (deliver (encode i) (decode s.cfg.opimmF7Key (encode i)) s) := by
  cases i with
  | load0 | load1 | load2 | load4 | load5 => exact next_deliver_ok s (decode_encodeI_ok rfl rfl)
  | load3 | load6 | load7 =>
    exact next_deliver_err s (decode_of_noEntry (encodeI_opcode ..) rfl (congrArg some (encodeI_funct3 ..)) rfl rfl)
  | store0 | store1 | store2 => exact next_deliver_ok s (decode_encodeS_ok rfl rfl)
  | store3 | store4 | store5 | store6 | store7 =>
    exact next_deliver_err s (decode_of_noEntry (encodeS_opcode ..) rfl (congrArg some (encodeS_funct3 ..)) rfl rfl)
  | miscMem | jalr | system => exact next_deliver_ok s (decode_encodeI_ok rfl rfl)
  | auipc | lui =>
    simp only [exec, execAuipc, execLui, upperRecord_eq_shapeU]
    exact next_deliver_ok s (decode_encodeU_ok h rfl rfl)
  | jal => exact next_deliver_ok s (decode_encodeJ_ok h rfl rfl)
  | opImm0 rd rs1 imm =>
    have hu := lookup_alu_zero (.inl rfl) (funct7Key s.cfg.opimmF7Key none (encodeI .opImm 0 rd rs1 imm))
    rw [← opImmColumn_eq] at hu
    exact next_deliver_ok s (decode_encodeI_ok rfl hu)
  | opImm5 rd rs1 imm =>
    have hu := lookup_alu_five (.inl rfl) (funct7Key s.cfg.opimmF7Key none (encodeI .opImm 5 rd rs1 imm))
    rw [← opImmColumn_eq] at hu
    exact next_deliver_ok s (decode_encodeI_ok rfl hu)
  | opImm1 | opImm2 | opImm3 | opImm4 | opImm6 | opImm7 => exact next_deliver_ok s (decode_encodeI_ok rfl rfl)
  | op0z | op1 | op2 | op3 | op4 | op5z | op6 | op7 => exact next_deliver_ok s (decode_encodeR_ok rfl rfl)
  | branch0 | branch1 | branch4 | branch5 | branch6 | branch7 =>
    exact next_deliver_ok s (decode_encodeB_ok h rfl rfl)
  | branch2 | branch3 =>
    exact next_deliver_err s (decode_of_noEntry (encodeB_opcode ..) rfl (congrArg some (encodeB_funct3 ..)) rfl rfl)
  | op0nz rd rs1 rs2 f7 =>
    have hu := lookup_alu_zero (.inr rfl) f7
    rw [if_neg (bne_iff_ne.1 h)] at hu
    exact next_deliver_ok s (decode_encodeR_ok rfl hu)
  | op5nz rd rs1 rs2 f7 =>
    have hu := lookup_alu_five (.inr rfl) f7
    rw [if_neg (bne_iff_ne.1 h)] at hu
    exact next_deliver_ok s (decode_encodeR_ok rfl hu)

end Sys2Proof.Machine
end

section
/-!
PROOF. What a step does: the result of `decode` on the oldest word is delivered, or the loader or the
caller's side acts; and what each of those actions can do.
-/

namespace Sys2Proof.Machine

/-- A word has a class exactly when some major operation has its opcode (rules R99, R103). -/
theorem decodeWord_cases (w : Word) :
    (∃ m, opcodeField w = opcodeOf m ∧ decodeWord w = .ok (classify m w)) ∨
    (majorOf defaultTables (opcodeField w) = none ∧ decodeWord w = .error (.unknownOpcode (opcodeField w))) := by
  cases hm : majorOf defaultTables (opcodeField w) with
  | none =>
    have hf : MajorOperation.all.find? (fun m => opcodeOf m == opcodeField w) = none := hm
    exact .inr ⟨rfl, by simp [decodeWord, hf]⟩
  | some m =>
    have h : opcodeField w = opcodeOf m := by
      have hb := List.find?_some (p := fun m => opcodeOf m == opcodeField w) hm
      exact (beq_iff_eq.1 hb).symm
    exact .inl ⟨m, h, decodeWord_of_opcode h⟩

/-- The meaning of a word's class delivers what `decode` yields for the word. -/
theorem exec_of_decodeWord {w : Word} {i : Instr} (h : decodeWord w = .ok i) (s : State) :
    exec i s = .next (deliver w (decode s.cfg.opimmF7Key w) s) := by
  rcases decodeWord_cases w with ⟨m, hm, hd⟩ | ⟨_, hd⟩
  · cases hd.symm.trans h
    simpa [encode_classify hm] using exec_eq_deliver (wellFormed_classify m w) s
  · cases hd.symm.trans h

/-- A word with no class is one whose opcode `decode` does not know. -/
theorem rejectWord_of_decodeWord {w : Word} {r : Reject} (h : decodeWord w = .error r) (s : State) :
    rejectWord w s = deliver w (decode s.cfg.opimmF7Key w) s := by
  rcases decodeWord_cases w with ⟨m, _, hd⟩ | ⟨hm, _⟩
  · cases hd.symm.trans h
  · rw [decode, decodeWith_of_unknown hm]; rfl

/-- A step on a waiting word delivers what `decode` yields for it. -/
theorem step_of_words {s : State} {w : Word} {ws : List Word} (h : s.words = w :: ws) :
    step s = .next (deliver w (decode s.cfg.opimmF7Key w) { s with words := ws }) := by
  simp only [step, fetch_cons h]
  cases hd : decodeWord w with
  | ok i => exact exec_of_decodeWord hd _
  | error r => exact congrArg _ (rejectWord_of_decodeWord hd _)

theorem step_of_no_words {s : State} (h : s.words = []) : step s = .next (advance s) := by
  simp [step, fetch_nil h]

/-- What the next state is: the oldest word's result delivered, or, with no word waiting, an advance. -/
theorem next_cases {s t : State} (h : step s = .next t) :
    (s.words = [] ∧ t = advance s) ∨
    (∃ w ws, s.words = w :: ws ∧ t = deliver w (decode s.cfg.opimmF7Key w) { s with words := ws }) := by
  cases hw : s.words with
  | nil => exact .inl ⟨rfl, by cases (step_of_no_words hw).symm.trans h; rfl⟩
  | cons w ws => exact .inr ⟨w, ws, rfl, by cases (step_of_words hw).symm.trans h; rfl⟩

/-- Reading a line, by what the line says. -/
theorem readLine_cases (line : Line) (s : State) :
    (scanLine s.cfg s.loader.current s.lineNo line = .skipped ∧ readLine line s = s) ∨
    (∃ a, scanLine s.cfg s.loader.current s.lineNo line = .header a ∧
      readLine line s = { s with loader := s.loader.select a }) ∨
    (∃ ws, scanLine s.cfg s.loader.current s.lineNo line = .data ws ∧ readLine line s = { s with words := ws }) ∨
    (∃ e, scanLine s.cfg s.loader.current s.lineNo line = .bad e ∧ readLine line s = s.abort e) := by
  unfold readLine
  cases scanLine s.cfg s.loader.current s.lineNo line <;> simp

theorem continueLoad_cases (s : State) :
    (s.lines = [] ∧ continueLoad s = s.finish) ∨
    (∃ line ls, s.lines = line :: ls ∧
      continueLoad s = readLine line { s with lines := ls, lineNo := s.lineNo + 1 }) := by
  unfold continueLoad
  cases s.lines <;> simp

theorem beginDecode_cases (bits : List Bool) (s : State) :
    (wordOfBits bits = none ∧
      beginDecode bits s = s.reply (.decoded (.err (.invalidInstruction bits.length)))) ∨
    (∃ w, wordOfBits bits = some w ∧ beginDecode bits s = { s with words := [w] }) := by
  unfold beginDecode
  cases wordOfBits bits <;> simp

theorem advance_cases (s : State) :
    (s.loading = true ∧ advance s = continueLoad s) ∨ (s.loading = false ∧ advance s = takeCall s) := by
  unfold advance
  cases s.loading <;> simp

end Sys2Proof.Machine
end

section
/-!
PROOF. What every operation leaves alone: the settings, and the replies given before (rules R28, R32, R281).
-/

namespace Sys2Proof.Machine

/-- `t` has the settings of `s` and every reply of `s`, in order, before any new one. -/
def State.KeepsGiven (s t : State) : Prop := t.cfg = s.cfg ∧ s.replies <+: t.replies

theorem keepsGiven_of_eq {s t : State} (hc : t.cfg = s.cfg) (hr : t.replies = s.replies) : s.KeepsGiven t :=
  ⟨hc, hr ▸ List.prefix_rfl⟩

theorem keepsGiven_of_reply {s t : State} (r : Reply) (hc : t.cfg = s.cfg) (hr : t.replies = s.replies ++ [r]) :
    s.KeepsGiven t := ⟨hc, hr ▸ List.prefix_append _ _⟩

theorem accept_keepsGiven (ins : Instruction) (s : State) : s.KeepsGiven (accept ins s) := by
  rcases accept_cases ins s with ⟨-, e⟩ | ⟨-, a, -, e⟩ | ⟨-, -, e⟩ <;> rw [e]
  · exact keepsGiven_of_reply _ rfl rfl
  · exact keepsGiven_of_eq rfl rfl
  · exact keepsGiven_of_reply _ rfl rfl

theorem raise_keepsGiven (w : Word) (e : DecodeError) (s : State) : s.KeepsGiven (raise w e s) := by
  rcases raise_cases w e s with ⟨-, h⟩ | ⟨-, a, -, h⟩ | ⟨-, -, h⟩ <;> rw [h] <;> exact keepsGiven_of_reply _ rfl rfl

theorem deliver_keepsGiven (w : Word) (r : DecodeResult) (s : State) : s.KeepsGiven (deliver w r s) := by
  cases r with
  | ok ins => exact accept_keepsGiven ins s
  | err e => exact raise_keepsGiven w e s

theorem readLine_keepsGiven (line : Line) (s : State) : s.KeepsGiven (readLine line s) := by
  rcases readLine_cases line s with ⟨-, e⟩ | ⟨a, -, e⟩ | ⟨ws, -, e⟩ | ⟨er, -, e⟩ <;> rw [e]
  · exact keepsGiven_of_eq rfl rfl
  · exact keepsGiven_of_eq rfl rfl
  · exact keepsGiven_of_eq rfl rfl
  · exact keepsGiven_of_reply _ rfl rfl

theorem continueLoad_keepsGiven (s : State) : s.KeepsGiven (continueLoad s) := by
  rcases continueLoad_cases s with ⟨-, e⟩ | ⟨line, ls, -, e⟩ <;> rw [e]
  · exact keepsGiven_of_reply _ rfl rfl
  · exact readLine_keepsGiven line { s with lines := ls, lineNo := s.lineNo + 1 }

theorem beginDecode_keepsGiven (bits : List Bool) (s : State) : s.KeepsGiven (beginDecode bits s) := by
  rcases beginDecode_cases bits s with ⟨-, e⟩ | ⟨w, -, e⟩ <;> rw [e]
  · exact keepsGiven_of_reply _ rfl rfl
  · exact keepsGiven_of_eq rfl rfl

theorem takeCall_keepsGiven (s : State) : s.KeepsGiven (takeCall s) := by
  rcases takeCall_cases s with ⟨-, e⟩ | ⟨bits, cs, -, e⟩ | ⟨lines, cs, -, e⟩ <;> rw [e]
  · exact keepsGiven_of_eq rfl rfl
  · exact beginDecode_keepsGiven bits { s with calls := cs }
  · exact keepsGiven_of_eq rfl rfl

theorem advance_keepsGiven (s : State) : s.KeepsGiven (advance s) := by
  rcases advance_cases s with ⟨-, e⟩ | ⟨-, e⟩ <;> rw [e]
  · exact continueLoad_keepsGiven s
  · exact takeCall_keepsGiven s

/-- Settles O45: what a step delivers or advances keeps the settings and adds replies at the end only. -/
theorem stepKeepsSettingsAndReplies : Obligations.StepKeepsSettingsAndReplies := by
  intro s t h
  rcases next_cases h with ⟨-, rfl⟩ | ⟨w, ws, -, rfl⟩
  · exact advance_keepsGiven s
  · exact deliver_keepsGiven w _ { s with words := ws }

end Sys2Proof.Machine
end

section
/-!
PROOF. The invariant of the machine: the image and the loader stay good, and each action of a step keeps `State.Inv`.
-/

namespace Sys2Proof.Machine

/-- An instruction of the image after an append is the one appended or was there before. -/
theorem mem_image_append {m : MemoryImage} {a : LoadAddress} {ins : Instruction} {p : LoadAddress × Segment}
    (hp : p ∈ Memory.append m a ins) : ∀ i ∈ p.2, i = ins ∨ ∃ q ∈ m, i ∈ q.2 := by
  induction m with
  | nil =>
    simp only [Memory.append, List.mem_singleton] at hp
    subst hp
    simp
  | cons q m ih =>
    obtain ⟨k, seg⟩ := q
    intro i hi
    by_cases hk : k = a
    · simp only [Memory.append, hk, if_true, List.mem_cons] at hp
      rcases hp with rfl | hp
      · rcases List.mem_append.1 hi with hi | hi
        · exact .inr ⟨_, List.mem_cons_self, hi⟩
        · exact .inl (List.mem_singleton.1 hi)
      · exact .inr ⟨p, List.mem_cons_of_mem _ hp, hi⟩
    · simp only [Memory.append, hk, if_false, List.mem_cons] at hp
      rcases hp with rfl | hp
      · exact .inr ⟨_, List.mem_cons_self, hi⟩
      · exact (ih hp i hi).imp_right fun ⟨q, hq, hiq⟩ => ⟨q, List.mem_cons_of_mem _ hq, hiq⟩

section good
variable {key : OpimmF7Key}

theorem good_nil : Memory.Good key [] := ⟨wf_nil, fun _ h => nomatch h⟩

theorem good_addKey {m : MemoryImage} {a : LoadAddress} (hm : Memory.Good key m) (ha : a ∉ Memory.keys m) :
    Memory.Good key (Memory.addKey m a) := by
  obtain ⟨hwf, hdec⟩ := hm
  refine ⟨wf_addKey hwf ha, fun p hp => ?_⟩
  rcases List.mem_append.1 hp with hp | hp
  · exact hdec p hp
  · cases List.mem_singleton.1 hp
    exact fun _ h => nomatch h

theorem good_append {m : MemoryImage} {ins : Instruction} (a : LoadAddress) (hm : Memory.Good key m)
    (hi : Instruction.Decoded key ins) : Memory.Good key (Memory.append m a ins) := by
  obtain ⟨hwf, hdec⟩ := hm
  refine ⟨wf_append a ins hwf, fun p hp i hip => ?_⟩
  rcases mem_image_append hp i hip with rfl | ⟨q, hq, hiq⟩
  · exact hi
  · exact hdec q hq i hiq

theorem good_initial : Loader.Good key Loader.initial := ⟨good_nil, by simp, by simp⟩

theorem keys_append_of_mem {m : MemoryImage} {a : LoadAddress} (ins : Instruction) (ha : a ∈ Memory.keys m) :
    Memory.keys (Memory.append m a ins) = Memory.keys m := by
  rw [keys_append, if_pos ha]

theorem good_loader_append {l : Loader} {a : LoadAddress} {ins : Instruction} (hl : Loader.Good key l)
    (ha : l.current = some a) (hi : Instruction.Decoded key ins) : Loader.Good key (l.append a ins) := by
  obtain ⟨himg, hcur, hdiag⟩ := hl
  have hk := keys_append_of_mem ins (hcur a ha)
  exact ⟨good_append a himg hi, by simpa [hk] using hcur, by simpa [hk] using hdiag⟩

theorem good_select {l : Loader} (a : LoadAddress) (hl : Loader.Good key l) : Loader.Good key (l.select a) := by
  obtain ⟨himg, hcur, hdiag⟩ := hl
  rcases select_cases l a with ⟨ha, e⟩ | ⟨ha, e⟩ <;> rw [e]
  · refine ⟨himg, by simpa using ha, fun b hb => ?_⟩
    rcases List.mem_append.1 hb with hb | hb
    · exact hdiag b hb
    · cases List.mem_singleton.1 hb; exact ha
  · refine ⟨good_addKey himg ha, by simp, fun b hb => ?_⟩
    simp [hdiag b hb]

/-- What a load returns is good without its current address, which is no part of a result (rule R49). -/
theorem good_loaded {l : Loader} (hl : Loader.Good key l) : Reply.Good key (.loaded (.ok l.image l.diags)) := by
  obtain ⟨himg, -, hdiag⟩ := hl
  exact ⟨himg, by simp, hdiag⟩

end good

/-! ### The invariant -/

theorem inv_reply {s : State} {r : Reply} (hs : s.Inv) (hr : Reply.Good s.cfg.opimmF7Key r) : (s.reply r).Inv where
  loader := hs.loader
  replies q hq := by
    rcases List.mem_append.1 hq with hq | hq
    · exact hs.replies q hq
    · cases List.mem_singleton.1 hq; exact hr
  idle := hs.idle
  current := hs.current

theorem inv_endLoad {s : State} (hs : s.Inv) : s.endLoad.Inv where
  loader := good_initial
  replies := hs.replies
  idle _ := ⟨rfl, rfl, rfl⟩
  current h := nomatch h

theorem inv_abort {s : State} (e : LoadError) (hs : s.Inv) : (s.abort e).Inv := inv_reply (inv_endLoad hs) trivial

theorem inv_finish {s : State} (hs : s.Inv) : s.finish.Inv := inv_reply (inv_endLoad hs) (good_loaded hs.loader)

/-- The invariant does not ask for the word that has left the decoder's input. -/
theorem inv_fetched {s : State} {w : Word} {ws : List Word} (hs : s.Inv) (hw : s.words = w :: ws) :
    State.Inv { s with words := ws } where
  loader := hs.loader
  replies := hs.replies
  idle := hs.idle
  current hl _ := hs.current hl (by simp [hw])

theorem inv_accept {s : State} {ins : Instruction} (hs : s.Inv) (hi : Instruction.Decoded s.cfg.opimmF7Key ins) :
    (accept ins s).Inv := by
  rcases accept_cases ins s with ⟨-, e⟩ | ⟨hl, a, ha, e⟩ | ⟨-, -, e⟩ <;> rw [e]
  · exact inv_reply hs hi
  · exact ⟨good_loader_append hs.loader ha hi, hs.replies, fun h => (by simp [hl] at h), hs.current⟩
  · exact inv_abort _ hs

theorem inv_raise {s : State} (w : Word) (e : DecodeError) (hs : s.Inv) : (raise w e s).Inv := by
  rcases raise_cases w e s with ⟨-, h⟩ | ⟨-, a, -, h⟩ | ⟨-, -, h⟩ <;> rw [h]
  · exact inv_reply hs trivial
  · exact inv_abort _ hs
  · exact inv_abort _ hs

/-- What `decode` yields for a word is what the invariant asks of an instruction or a reply (rules R25, R142). -/
theorem inv_deliver_decode {s : State} (w : Word) (hs : s.Inv) : (deliver w (decode s.cfg.opimmF7Key w) s).Inv := by
  cases hd : decode s.cfg.opimmF7Key w with
  | ok ins => exact inv_accept hs ⟨w, hd⟩
  | err e => exact inv_raise w e hs

/-- A data line is valid only after a header (rule R60). -/
theorem scanData_data {current : Option LoadAddress} {n : Nat} {line : List Char} {ws : List Word}
    (h : scanData current n line = .data ws) : current ≠ none := by
  rintro rfl
  unfold scanData at h
  simp only at h
  split at h
  · cases h
  · split at h <;> cases h

theorem scanHeader_ne_data (n : Nat) (afterAt : List Char) (ws : List Word) : scanHeader n afterAt ≠ .data ws := by
  unfold scanHeader
  split <;> simp

theorem scanLine_data {cfg : Config} {current : Option LoadAddress} {n : Nat} {line : Line} {ws : List Word}
    (h : scanLine cfg current n line = .data ws) : current ≠ none := by
  unfold scanLine at h
  split at h
  · split at h
    · cases h
    · exact scanData_data h
  · split at h
    · exact absurd h (scanHeader_ne_data _ _ _)
    · exact scanData_data h

theorem inv_readLine {s : State} (line : Line) (hs : s.Inv) (hl : s.loading = true) (hw : s.words = []) :
    (readLine line s).Inv := by
  have hidle (h : s.loading = false) : False := by simp [hl] at h
  rcases readLine_cases line s with ⟨-, e⟩ | ⟨a, -, e⟩ | ⟨ws, hws, e⟩ | ⟨er, -, e⟩ <;> rw [e]
  · exact hs
  · exact ⟨good_select a hs.loader, hs.replies, fun h => (hidle h).elim, fun _ h => absurd hw h⟩
  · exact ⟨hs.loader, hs.replies, fun h => (hidle h).elim, fun _ _ => scanLine_data hws⟩
  · exact inv_abort er hs

theorem inv_continueLoad {s : State} (hs : s.Inv) (hl : s.loading = true) (hw : s.words = []) :
    (continueLoad s).Inv := by
  rcases continueLoad_cases s with ⟨-, e⟩ | ⟨line, ls, -, e⟩ <;> rw [e]
  · exact inv_finish hs
  · have hs' : State.Inv { s with lines := ls, lineNo := s.lineNo + 1 } :=
      ⟨hs.loader, hs.replies, fun h => absurd (hl.symm.trans h) (by simp), hs.current⟩
    exact inv_readLine line hs' hl hw

theorem inv_takeCall {s : State} (hs : s.Inv) (hl : s.loading = false) (hw : s.words = []) : (takeCall s).Inv := by
  have hs' (cs : List Call) : State.Inv { s with calls := cs } := ⟨hs.loader, hs.replies, hs.idle, hs.current⟩
  rcases takeCall_cases s with ⟨-, e⟩ | ⟨bits, cs, -, e⟩ | ⟨lines, cs, -, e⟩ <;> rw [e]
  · exact hs
  · rcases beginDecode_cases bits { s with calls := cs } with ⟨-, e⟩ | ⟨w, -, e⟩ <;> rw [e]
    · exact inv_reply (hs' cs) trivial
    · exact ⟨hs.loader, hs.replies, hs.idle, fun h => absurd (hl.symm.trans h) (by simp)⟩
  · exact ⟨good_initial, hs.replies, fun h => (nomatch h), fun _ h => absurd hw h⟩

/-- Settles O42: the invariant through a fetched word's result, a line of a load, the end of a load and a call. -/
theorem stepKeepsTheInvariant : Obligations.StepKeepsTheInvariant := by
  intro s t hs h
  rcases next_cases h with ⟨hw, rfl⟩ | ⟨w, ws, hw, rfl⟩
  · rcases advance_cases s with ⟨hl, e⟩ | ⟨hl, e⟩ <;> rw [e]
    · exact inv_continueLoad hs hl hw
    · exact inv_takeCall hs hl hw
  · exact inv_deliver_decode w (inv_fetched hs hw)

/-- Settles O43: nothing runs and nothing is held at reset. -/
theorem resetMeetsTheInvariant : Obligations.ResetMeetsTheInvariant where
  loader := good_initial
  replies _ h := nomatch h
  idle _ := ⟨rfl, rfl, rfl⟩
  current h := nomatch h

/-- Settles O47: the loader at reset is its initial state. -/
theorem resetValuesOfTheLoader : Obligations.ResetValuesOfTheLoader := rfl

end Sys2Proof.Machine
end

section
/-!
PROOF. Segments are append-only while a load goes on (rule R31).
-/

namespace Sys2Proof.Machine

/-- Every key and every instruction of `m` is in `m'` at its place; what is new stands after it. -/
def Memory.Grows (m m' : MemoryImage) : Prop :=
  Memory.keys m <+: Memory.keys m' ∧ ∀ a, Memory.segment m a <+: Memory.segment m' a

theorem grows_refl (m : MemoryImage) : Memory.Grows m m := ⟨List.prefix_rfl, fun _ => List.prefix_rfl⟩

theorem grows_append (m : MemoryImage) (a : LoadAddress) (ins : Instruction) :
    Memory.Grows m (Memory.append m a ins) := by
  refine ⟨?_, fun b => ?_⟩
  · rw [keys_append]
    split
    · exact List.prefix_rfl
    · exact List.prefix_append _ _
  · by_cases hb : b = a
    · subst hb
      simp [Memory.segment, find?_append_same]
    · simp [Memory.segment, find?_append_other m a b ins hb]

theorem grows_addKey {m : MemoryImage} {a : LoadAddress} (ha : a ∉ Memory.keys m) :
    Memory.Grows m (Memory.addKey m a) := by
  refine ⟨by simp, fun b => ?_⟩
  by_cases hb : a = b
  · subst hb
    simp [Memory.segment, (find?_eq_none_iff m a).2 ha]
  · simp [Memory.segment, find?_addKey m a b ha, hb]

theorem grows_select (l : Loader) (a : LoadAddress) : Memory.Grows l.image (l.select a).image := by
  rcases select_cases l a with ⟨-, e⟩ | ⟨ha, e⟩ <;> rw [e]
  · exact grows_refl _
  · exact grows_addKey ha

theorem grows_deliver {s : State} (w : Word) (r : DecodeResult) (hl : s.loading = true)
    (ht : (deliver w r s).loading = true) : Memory.Grows s.loader.image (deliver w r s).loader.image := by
  cases r with
  | ok ins =>
    rw [deliver_ok] at ht ⊢
    rcases accept_cases ins s with ⟨h, -⟩ | ⟨-, a, -, e⟩ | ⟨-, -, e⟩
    · simp [hl] at h
    · rw [e]; exact grows_append _ a ins
    · simp [e] at ht
  | err er =>
    rw [deliver_err] at ht
    rcases raise_cases w er s with ⟨h, -⟩ | ⟨-, a, -, e⟩ | ⟨-, -, e⟩
    · simp [hl] at h
    · simp [e] at ht
    · simp [e] at ht

theorem grows_readLine {s : State} (line : Line) (ht : (readLine line s).loading = true) :
    Memory.Grows s.loader.image (readLine line s).loader.image := by
  rcases readLine_cases line s with ⟨-, e⟩ | ⟨a, -, e⟩ | ⟨ws, -, e⟩ | ⟨er, -, e⟩ <;> rw [e] at ht ⊢
  · exact grows_refl _
  · exact grows_select _ a
  · exact grows_refl _
  · simp at ht

theorem grows_continueLoad {s : State} (ht : (continueLoad s).loading = true) :
    Memory.Grows s.loader.image (continueLoad s).loader.image := by
  rcases continueLoad_cases s with ⟨-, e⟩ | ⟨line, ls, -, e⟩ <;> rw [e] at ht ⊢
  · simp at ht
  · exact grows_readLine line ht

/-- Settles O46: while the load goes on, a word's instruction or a line makes the image grow at its ends. -/
theorem segmentsAreAppendOnly : Obligations.SegmentsAreAppendOnly := by
  intro s t hl h ht
  rcases next_cases h with ⟨-, rfl⟩ | ⟨w, ws, -, rfl⟩
  · have e : advance s = continueLoad s := by simp [advance, hl]
    rw [e] at ht ⊢
    exact grows_continueLoad ht
  · exact grows_deliver (s := { s with words := ws }) w _ hl ht

end Sys2Proof.Machine
end

section
/-!
PROOF. The load operation and the headers of its text: what one line can do, and the keys and diagnostics it leaves
(rules R30, R47, R49, R262).
-/

namespace Sys2Proof.Machine

/-- The current address, where there is one, is a key. -/
def Loader.CurrentIsKey (l : Loader) : Prop := ∀ a, l.current = some a → a ∈ Memory.keys l.image

/-- Two loaders that differ in the instructions of their segments alone. -/
def Loader.SameHeaders (l l' : Loader) : Prop :=
  Memory.keys l'.image = Memory.keys l.image ∧ l'.current = l.current ∧ l'.diags = l.diags

theorem loadWord_ok {cfg : Config} {l l' : Loader} {n : Nat} {w : Word} (h : loadWord cfg l n w = .ok l') :
    ∃ a ins, l.current = some a ∧ decode cfg.opimmF7Key w = .ok ins ∧ l' = l.append a ins := by
  unfold loadWord at h
  split at h
  · cases h
  · next a ha =>
    split at h
    · next ins hd => cases h; exact ⟨a, ins, ha, hd, rfl⟩
    · cases h

theorem loadWords_cons_ok {cfg : Config} {l l' : Loader} {n : Nat} {w : Word} {ws : List Word}
    (h : loadWords cfg l n (w :: ws) = .ok l') :
    ∃ l₁, loadWord cfg l n w = .ok l₁ ∧ loadWords cfg l₁ n ws = .ok l' := by
  rw [loadWords] at h
  split at h
  · next l₁ h₁ => exact ⟨l₁, h₁, h⟩
  · cases h

theorem loadWords_sameHeaders {cfg : Config} {n : Nat} {ws : List Word} {l l' : Loader} (hl : l.CurrentIsKey)
    (h : loadWords cfg l n ws = .ok l') : l.SameHeaders l' := by
  induction ws generalizing l with
  | nil => cases h; exact ⟨rfl, rfl, rfl⟩
  | cons w ws ih =>
    obtain ⟨l₁, h₁, h₂⟩ := loadWords_cons_ok h
    obtain ⟨a, ins, ha, -, rfl⟩ := loadWord_ok h₁
    have hk := keys_append_of_mem ins (hl a ha)
    have hl₁ : (l.append a ins).CurrentIsKey := by simpa [Loader.CurrentIsKey, hk] using hl
    obtain ⟨hkeys, hcur, hdiags⟩ := ih hl₁ h₂
    exact ⟨hkeys.trans hk, hcur, hdiags⟩

/-- A line that does not end the load: a header selects its address, any other line leaves the headers as they were. -/
theorem loadLine_ok {cfg : Config} {l l' : Loader} {n : Nat} {line : Line} (hl : l.CurrentIsKey)
    (h : loadLine cfg l n line = .ok l') :
    (∃ a, scanLine cfg l.current n line = .header a ∧ l' = l.select a) ∨
    ((∀ a, scanLine cfg l.current n line ≠ .header a) ∧ l.SameHeaders l') := by
  unfold loadLine at h
  split at h
  · next hs => cases h; exact .inr ⟨by simp [hs], rfl, rfl, rfl⟩
  · next a hs => cases h; exact .inl ⟨a, hs, rfl⟩
  · next ws hs => exact .inr ⟨by simp [hs], loadWords_sameHeaders hl h⟩
  · cases h

theorem loadFrom_cons_ok {cfg : Config} {l : Loader} {n : Nat} {line : Line} {ls : List Line} {image : MemoryImage}
    {diags : List Diagnostic} (h : loadFrom cfg l n (line :: ls) = .ok image diags) :
    ∃ l', loadLine cfg l (n + 1) line = .ok l' ∧ loadFrom cfg l' (n + 1) ls = .ok image diags := by
  rw [loadFrom] at h
  split at h
  · next l' h' => exact ⟨l', h', h⟩
  · cases h

section headers
variable {cfg : Config} {current : Option LoadAddress} {n : Nat} {line : Line}

theorem headerAddresses_header {a : LoadAddress} (h : scanLine cfg current (n + 1) line = .header a) (ls : List Line) :
    headerAddresses cfg current n (line :: ls) = a :: headerAddresses cfg (some a) (n + 1) ls := by
  rw [headerAddresses, h]

theorem headerAddresses_other (h : ∀ a, scanLine cfg current (n + 1) line ≠ .header a) (ls : List Line) :
    headerAddresses cfg current n (line :: ls) = headerAddresses cfg current (n + 1) ls := by
  rw [headerAddresses]
  split
  · next a ha => exact absurd ha (h a)
  · rfl

end headers

theorem select_current (l : Loader) (a : LoadAddress) : (l.select a).current = some a := by
  rcases select_cases l a with ⟨-, e⟩ | ⟨-, e⟩ <;> rw [e]

theorem currentIsKey_select (l : Loader) (a : LoadAddress) : (l.select a).CurrentIsKey := by
  intro b hb
  cases (select_current l a).symm.trans hb
  rcases select_cases l a with ⟨ha, e⟩ | ⟨-, e⟩ <;> rw [e]
  · exact ha
  · simp

/-- From any point of a load on: the keys and the diagnostics grow by what the headers still to come give. -/
theorem loadFrom_headers {cfg : Config} {lines : List Line} {l : Loader} {n : Nat} {image : MemoryImage}
    {diags : List Diagnostic} (hl : l.CurrentIsKey) (h : loadFrom cfg l n lines = .ok image diags) :
    Memory.keys image =
      Memory.keys l.image ++ firstAppearances (Memory.keys l.image) (headerAddresses cfg l.current n lines) ∧
    diags = l.diags ++
      (repeats (Memory.keys l.image) (headerAddresses cfg l.current n lines)).map Diagnostic.duplicateAddress := by
  induction lines generalizing l n with
  | nil =>
    cases h
    simp [headerAddresses, firstAppearances, repeats]
  | cons line ls ih =>
    obtain ⟨l', hline, hrest⟩ := loadFrom_cons_ok h
    rcases loadLine_ok hl hline with ⟨a, hs, rfl⟩ | ⟨hs, hkeys, hcur, hdiags⟩
    · have ih := ih (currentIsKey_select l a) hrest
      rw [select_current] at ih
      rw [headerAddresses_header hs]
      rcases select_cases l a with ⟨ha, e⟩ | ⟨ha, e⟩ <;> simpa [e, firstAppearances, repeats, ha] using ih
    · have hl' : l'.CurrentIsKey := by simpa [Loader.CurrentIsKey, hkeys, hcur] using hl
      have ih := ih hl' hrest
      rw [headerAddresses_other hs]
      simpa [hkeys, hcur, hdiags] using ih

/-- Settles O55: the loader's initial state has met no header. -/
theorem keysAndDiagnosticsFollowTheHeaders : Obligations.KeysAndDiagnosticsFollowTheHeaders := by
  intro cfg lines image diags h
  simpa using loadFrom_headers (l := Loader.initial) (fun _ h => nomatch h) h

end Sys2Proof.Machine
end

section
/-!
PROOF. Bit strings and `decode` calls: the word a string spells, and the run that answers a call (rules R5, R39, R130).
-/

namespace Sys2Proof.Machine

/-- The number a bit string spells, most significant bit first (rule R5). -/
def natOfBits (bits : List Bool) : Nat := bits.foldl (fun n b => 2 * n + b.toNat) 0

theorem wordOfBits_of_length {bits : List Bool} (h : bits.length = 32) :
    wordOfBits bits = some (BitVec.ofNat 32 (natOfBits bits)) := by
  rw [wordOfBits, if_pos h, natOfBits]

theorem natOfBits_append (bits : List Bool) (b : Bool) : natOfBits (bits ++ [b]) = Nat.bit b (natOfBits bits) := by
  simp [natOfBits, Nat.bit_val]

/-- Bit `i` of the number is the character `i` places from the right. -/
theorem testBit_natOfBits (bits : List Bool) (i : Nat) :
    (natOfBits bits).testBit i = (bits.reverse[i]?).getD false := by
  induction bits using List.reverseRecOn generalizing i with
  | nil => simp [natOfBits]
  | append_singleton bits b ih =>
    rw [natOfBits_append]
    cases i with
    | zero => simp
    | succ i => simp [Nat.testBit_bit_succ, ih]

theorem wordOfBits_of_spells {bits : List Bool} {w : Word} (h : Spells bits w) : wordOfBits bits = some w := by
  obtain ⟨hlen, hbit⟩ := h
  rw [wordOfBits_of_length hlen]
  congr 1
  apply BitVec.eq_of_getLsbD_eq
  intro i hi
  have hk : 31 - (32 - 1 - i) = i := by omega
  rw [BitVec.getLsbD_ofNat, testBit_natOfBits, List.getElem?_reverse (by omega), hlen, hbit _ (by omega), hk]
  simp [hi]

/-- A step that answers a next state is the first step of a run. -/
theorem run_succ_of_step {s t : State} (n : Nat) (h : step s = .next t) :
    (Host.Core.run Sys2Proof.core (n + 1) s : Host.Outcome State Fault Refusal) =
      (Host.Core.run Sys2Proof.core n t : Host.Outcome State Fault Refusal) := by
  have hc : Sys2Proof.core.step s = .next t := h
  simp only [Host.Core.run, hc]

theorem deliver_idle {s : State} (w : Word) (r : DecodeResult) (hl : s.loading = false) :
    deliver w r s = s.reply (.decoded r) := by
  cases r <;> simp [accept, raise, hl]

theorem step_of_idle_word {s : State} {w : Word} {ws : List Word} (hl : s.loading = false) (hw : s.words = w :: ws) :
    step s = .next (State.reply { s with words := ws } (.decoded (decode s.cfg.opimmF7Key w))) := by
  rw [step_of_words hw, deliver_idle (s := { s with words := ws }) w _ hl]

theorem step_takes_decode {s : State} {bits : List Bool} {cs : List Call} (hl : s.loading = false) (hw : s.words = [])
    (hc : s.calls = .decode bits :: cs) : step s = .next (beginDecode bits { s with calls := cs }) := by
  simp [step_of_no_words hw, advance, hl, takeCall, hc]

/-- Settles O39: one step answers a string of another length; two take the call and deliver its word's result. -/
theorem decodeCallIsAnswered : Obligations.DecodeCallIsAnswered := by
  refine ⟨fun T key bits w h => by rw [decodeBits, wordOfBits_of_spells h], fun s bits cs hl hw hc => ?_⟩
  have htake := step_takes_decode hl hw hc
  rcases beginDecode_cases bits { s with calls := cs } with ⟨hb, e⟩ | ⟨w, hb, e⟩ <;> rw [e] at htake
  · refine ⟨1, by omega, (run_succ_of_step 0 htake).trans ?_⟩
    rw [decodeBits, hb]
    rfl
  · have hdecode := step_of_idle_word (s := { s with calls := cs, words := [w] }) hl rfl
    refine ⟨2, by omega, (run_succ_of_step 1 htake).trans ((run_succ_of_step 0 hdecode).trans ?_)⟩
    rw [decodeBits, hb, ← hw]
    rfl

end Sys2Proof.Machine
end

section
/-!
PROOF. The text of a line: trimming and tokens, the bytes of the tokens, the words of the bytes, and how many words a
line can hold (rules R42 to R45).
-/

namespace Sys2Proof.Machine

section tokens

/-- White space in front of the tokens is passed over. -/
theorem splitTokens_blank_append {gap : List Char} (h : AllBlank gap) (rest : List Char) :
    splitTokens [] (gap ++ rest) = splitTokens [] rest := by
  induction gap with
  | nil => rfl
  | cons c gap ih =>
    obtain ⟨hc, hgap⟩ := List.forall_mem_cons.1 h
    simpa [splitTokens, hc] using ih hgap

/-- A run without white space is added to the run already begun. -/
theorem splitTokens_run_append {run : List Char} (h : NoneBlank run) (begun rest : List Char) :
    splitTokens begun (run ++ rest) = splitTokens (begun ++ run) rest := by
  induction run generalizing begun with
  | nil => simp
  | cons c run ih =>
    obtain ⟨hc, hrun⟩ := List.forall_mem_cons.1 h
    simpa [splitTokens, hc] using ih hrun (begun ++ [c])

/-- A run ends at the end of the text or before white space. -/
theorem splitTokens_run_ends {begun rest : List Char} (hb : begun ≠ [])
    (h : ∀ c, rest.head? = some c → isBlank c = true) : splitTokens begun rest = begun :: splitTokens [] rest := by
  cases rest with
  | nil => simp [splitTokens, hb]
  | cons c cs =>
    have hc : isBlank c = true := h c rfl
    simp [splitTokens, hc, hb]

theorem tokens_of_allBlank {gap : List Char} (h : AllBlank gap) : tokens gap = [] := by
  simpa [tokens, splitTokens] using splitTokens_blank_append h []

/-- The first token is the first maximal run of characters that are not white space (rule R44). -/
theorem tokens_first_run {gap run rest : List Char} (hgap : AllBlank gap) (hne : run ≠ []) (hrun : NoneBlank run)
    (hrest : ∀ c, rest.head? = some c → isBlank c = true) : tokens (gap ++ run ++ rest) = run :: tokens rest := by
  rw [tokens, List.append_assoc, splitTokens_blank_append hgap, splitTokens_run_append hrun]
  exact splitTokens_run_ends hne hrest

/-- Every token but the one already begun takes a character of the text. -/
theorem length_splitTokens_le (begun cs : List Char) : (splitTokens begun cs).length ≤ begun.length + cs.length := by
  induction cs generalizing begun with
  | nil => cases begun <;> simp [splitTokens]
  | cons c cs ih =>
    have hnil := ih []
    have hrun := ih (begun ++ [c])
    cases hc : isBlank c with
    | true => cases begun <;> simp [splitTokens, hc] at hnil ⊢ <;> omega
    | false => simp [splitTokens, hc] at hrun ⊢; omega

theorem length_tokens_le (cs : List Char) : (tokens cs).length ≤ cs.length := by
  simpa [tokens] using length_splitTokens_le [] cs

end tokens

section trim

theorem isBlank_iff (c : Char) : isBlank c = true ↔ c.toNat = 32 ∨ (9 ≤ c.toNat ∧ c.toNat ≤ 13) := by
  simp [isBlank]

theorem trim_eq_rdropWhile (cs : List Char) : trim cs = (cs.dropWhile isBlank).rdropWhile isBlank := rfl

/-- What is left is the text less white space at its two ends. -/
theorem trim_decomposition (cs : List Char) :
    ∃ before after, cs = before ++ trim cs ++ after ∧ AllBlank before ∧ AllBlank after := by
  refine ⟨cs.takeWhile isBlank, (cs.dropWhile isBlank).rtakeWhile isBlank, ?_,
    fun c hc => List.mem_takeWhile_imp hc, fun c hc => List.mem_rtakeWhile_imp hc⟩
  rw [trim_eq_rdropWhile, List.append_assoc, List.rdropWhile_append_rtakeWhile, List.takeWhile_append_dropWhile]

theorem not_blank_of_head_dropWhile {cs : List Char} {c : Char} (h : (cs.dropWhile isBlank).head? = some c) :
    isBlank c = false := by
  simpa [h] using List.head?_dropWhile_not isBlank cs

theorem trim_head_not_blank {cs : List Char} {c : Char} (h : (trim cs).head? = some c) : isBlank c = false := by
  obtain ⟨after, hafter⟩ : trim cs <+: cs.dropWhile isBlank := List.rdropWhile_prefix isBlank _
  exact not_blank_of_head_dropWhile (by rw [← hafter, List.head?_append, h, Option.some_or])

theorem trim_last_not_blank {cs : List Char} {c : Char} (h : (trim cs).getLast? = some c) : isBlank c = false := by
  rw [trim, List.getLast?_reverse] at h
  exact not_blank_of_head_dropWhile h

theorem length_trim_le (cs : List Char) : (trim cs).length ≤ cs.length := by
  obtain ⟨before, after, h, -, -⟩ := trim_decomposition cs
  have := congrArg List.length h
  simp only [List.length_append] at this
  omega

theorem trim_of_allBlank {cs : List Char} (h : AllBlank cs) : trim cs = [] := by
  have hd : cs.dropWhile isBlank = [] := List.dropWhile_eq_nil_iff.2 h
  simp [trim, hd]

end trim

/-- Settles O60: the white space, what trimming leaves, and the first token of a text. -/
theorem trimAndTokensFollowTheWhiteSpace : Obligations.TrimAndTokensFollowTheWhiteSpace :=
  ⟨isBlank_iff,
   fun cs => ⟨trim_decomposition cs, fun _ => trim_head_not_blank, fun _ => trim_last_not_blank⟩,
   fun _ => tokens_of_allBlank,
   fun _ _ _ => tokens_first_run⟩

section parse

theorem parseBytes_cons_ok {t : List Char} {b : Byte} {ts : List (List Char)} {bs : List Byte}
    (h : parseByte t = some b) (hs : parseBytes ts = .ok bs) : parseBytes (t :: ts) = .ok (b :: bs) := by
  simp [parseBytes, h, hs]

theorem parseBytes_ok_of_map {ts : List (List Char)} {bs : List Byte} (h : ts.map parseByte = bs.map some) :
    parseBytes ts = .ok bs := by
  induction ts generalizing bs with
  | nil => cases bs with
    | nil => rfl
    | cons b bs => cases h
  | cons t ts ih =>
    cases bs with
    | nil => cases h
    | cons b bs =>
      obtain ⟨hb, hs⟩ := List.cons.inj h
      exact parseBytes_cons_ok hb (ih hs)

theorem length_of_parseBytes {ts : List (List Char)} {bs : List Byte} (h : parseBytes ts = .ok bs) :
    bs.length = ts.length := by
  induction ts generalizing bs with
  | nil => cases h; rfl
  | cons t ts ih =>
    rw [parseBytes] at h
    split at h
    · cases h
    · split at h
      · next bs' hs => cases h; simp [ih hs]
      · cases h

/-- The first token from the left that is no byte is the one reported (rule R44). -/
theorem parseBytes_first_bad {good : List (List Char)} {t : List Char} (bad : List (List Char))
    (hgood : ∀ g ∈ good, parseByte g ≠ none) (ht : parseByte t = none) : parseBytes (good ++ t :: bad) = .error t := by
  induction good with
  | nil => simp [parseBytes, ht]
  | cons g good ih =>
    obtain ⟨hg, hgood⟩ := List.forall_mem_cons.1 hgood
    obtain ⟨b, hb⟩ := Option.ne_none_iff_exists'.1 hg
    simp [parseBytes, hb, ih hgood]

@[simp] theorem groupWords_cons (b0 b1 b2 b3 : Byte) (rest : List Byte) :
    groupWords (b0 :: b1 :: b2 :: b3 :: rest) = assemble b0 b1 b2 b3 :: groupWords rest := by
  rw [groupWords]

theorem length_groupWords (bs : List Byte) : (groupWords bs).length = bs.length / 4 := by
  induction bs using groupWords.induct with
  | case1 b0 b1 b2 b3 rest ih => simp [ih]; omega
  | case2 bs h =>
    match bs, h with
    | [], _ | [_], _ | [_, _], _ | [_, _, _], _ => simp [groupWords]
    | b0 :: b1 :: b2 :: b3 :: rest, h => exact absurd rfl (h b0 b1 b2 b3 rest)

end parse

section scan
variable {current : Option LoadAddress} {n : Nat} {line : List Char} {ws : List Word}

/-- The words of a valid data line are those of its tokens' bytes. -/
theorem scanData_data_bytes (h : scanData current n line = .data ws) :
    ∃ bs, parseBytes (tokens line) = .ok bs ∧ ws = groupWords bs := by
  unfold scanData at h
  simp only at h
  split at h
  · cases h
  · split at h
    · cases h
    · next bs hbs =>
      split at h <;> cases h
      exact ⟨bs, hbs, rfl⟩

/-- A valid data line has at most as many words as it has characters. -/
theorem length_le_of_scanData (h : scanData current n line = .data ws) : ws.length ≤ line.length := by
  obtain ⟨bs, hbs, rfl⟩ := scanData_data_bytes h
  have htokens := length_tokens_le line
  rw [length_groupWords, length_of_parseBytes hbs]
  omega

theorem length_le_of_scanLine {cfg : Config} {line : Line} (h : scanLine cfg current n line = .data ws) :
    ws.length ≤ line.length := by
  have htrim := length_trim_le line
  unfold scanLine at h
  split at h
  · split at h
    · cases h
    · exact (length_le_of_scanData h).trans (Nat.zero_le _)
  · next c cs hc =>
    rw [hc] at htrim
    split at h
    · exact absurd h (scanHeader_ne_data _ _ _)
    · exact (length_le_of_scanData h).trans htrim

end scan

end Sys2Proof.Machine
end

section
/-!
PROOF. One action of a load: what a step does with a load's next word and with its next line, each by the case it
is in (rules R43 to R47, R60, R61, R256, R257, R259).
-/

namespace Sys2Proof.Machine

theorem accept_idle (ins : Instruction) {s : State} (hl : s.loading = false) :
    accept ins s = s.reply (.decoded (.ok ins)) := by
  simp [accept, hl]

theorem raise_idle (w : Word) (e : DecodeError) {s : State} (hl : s.loading = false) :
    raise w e s = s.reply (.decoded (.err e)) := by
  simp [raise, hl]

theorem accept_at (ins : Instruction) {s : State} {a : LoadAddress} (hl : s.loading = true)
    (ha : s.loader.current = some a) : accept ins s = { s with loader := s.loader.append a ins } := by
  simp [accept, hl, ha]

theorem raise_at (w : Word) (e : DecodeError) {s : State} {a : LoadAddress} (hl : s.loading = true)
    (ha : s.loader.current = some a) : raise w e s = s.abort (annotate s.cfg s.loader a w e) := by
  simp [raise, hl, ha]

/-- A word with no current address fails as its line does, whatever it decodes to (rule R60, log entry 13). -/
theorem deliver_no_address (w : Word) (r : DecodeResult) {s : State} (hl : s.loading = true)
    (ha : s.loader.current = none) : deliver w r s = s.abort (.fileFormat s.lineNo .beforeHeader) := by
  cases r <;> simp [accept, raise, hl, ha]

theorem step_loading {s : State} (hl : s.loading = true) (hw : s.words = []) : step s = .next (continueLoad s) := by
  simp [step_of_no_words hw, advance, hl]

theorem step_of_no_lines {s : State} (hl : s.loading = true) (hw : s.words = []) (hs : s.lines = []) :
    step s = .next s.finish := by
  simp [step_loading hl hw, continueLoad, hs]

theorem step_of_line {s : State} {line : Line} {ls : List Line} (hl : s.loading = true) (hw : s.words = [])
    (hs : s.lines = line :: ls) : step s = .next (readLine line { s with lines := ls, lineNo := s.lineNo + 1 }) := by
  simp [step_loading hl hw, continueLoad, hs]

/-- Settles O38: the word's decode, delivered to the segment at the current address. -/
theorem loaderDecodesAndAppends : Obligations.LoaderDecodesAndAppends := by
  intro s w ws a hw hl ha
  have hstep := step_of_words hw
  refine ⟨fun ins hd => ?_, fun e hd => ?_⟩ <;> rw [hstep, hd]
  · exact congrArg _ (accept_at ins (s := { s with words := ws }) hl ha)
  · exact congrArg _ (raise_at w e (s := { s with words := ws }) hl ha)

end Sys2Proof.Machine
end

section
/-!
PROOF. The machine answers a `load` call as rule R49 writes it: each step of a load keeps the result still to come and
brings the load nearer to its end (rules R49, R282, R287).
-/

namespace Sys2Proof.Machine

/-- What rule R49 still has to answer in a state: the words that wait, then the lines left. -/
def State.loadResult (s : State) : LoadResult :=
  match loadWords s.cfg s.loader s.lineNo s.words with
  | .ok l    => loadFrom s.cfg l s.lineNo s.lines
  | .error e => .err e

/-- An upper bound on the steps a load still takes: one a word, one a line and its words, and the last. -/
def State.loadCost (s : State) : Nat := 1 + s.words.length + s.lines.length + (s.lines.map List.length).sum

/-- The load is over and its result returned. -/
def State.answerLoad (s : State) (r : LoadResult) : State := s.endLoad.reply (.loaded r)

/-- From `s` the load goes on in `t`: the answer to come is the same, and nearer. -/
structure State.LoadGoesOn (s t : State) : Prop where
  loading : t.loading = true
  answer  : t.answerLoad t.loadResult = s.answerLoad s.loadResult
  cost    : t.loadCost < s.loadCost

section results
variable {s : State}

theorem loadResult_of_error {w : Word} {ws : List Word} {e : LoadError} (hw : s.words = w :: ws)
    (h : loadWord s.cfg s.loader s.lineNo w = .error e) : s.loadResult = .err e := by
  simp [State.loadResult, hw, loadWords, h]

theorem loadResult_of_word {w : Word} {ws : List Word} {l : Loader} (hw : s.words = w :: ws)
    (h : loadWord s.cfg s.loader s.lineNo w = .ok l) :
    s.loadResult = State.loadResult { s with words := ws, loader := l } := by
  simp [State.loadResult, hw, loadWords, h]

theorem loadResult_of_no_words (hw : s.words = []) :
    s.loadResult = loadFrom s.cfg s.loader s.lineNo s.lines := by
  simp [State.loadResult, hw, loadWords]

end results

/-- Rule R46 for one word: the step on it answers the error, or appends and goes on. -/
theorem step_word_of_load {s : State} {w : Word} {ws : List Word} (hl : s.loading = true) (hw : s.words = w :: ws) :
    step s = .next (s.answerLoad s.loadResult) ∨ ∃ t, step s = .next t ∧ s.LoadGoesOn t := by
  have hstep := step_of_words hw
  cases ha : s.loader.current with
  | none =>
    have hres : s.loadResult = .err (.fileFormat s.lineNo .beforeHeader) :=
      loadResult_of_error hw (by simp [loadWord, ha])
    rw [deliver_no_address (s := { s with words := ws }) w _ hl ha] at hstep
    exact .inl (hres ▸ hstep)
  | some a =>
    cases hd : decode s.cfg.opimmF7Key w with
    | err e =>
      have hres : s.loadResult = .err (annotate s.cfg s.loader a w e) :=
        loadResult_of_error hw (by simp [loadWord, ha, hd])
      rw [hd, deliver_err, raise_at (s := { s with words := ws }) w e hl ha] at hstep
      exact .inl (hres ▸ hstep)
    | ok ins =>
      have hres := loadResult_of_word hw (l := s.loader.append a ins) (by simp [loadWord, ha, hd])
      rw [hd, deliver_ok, accept_at (s := { s with words := ws }) ins hl ha] at hstep
      exact .inr ⟨_, hstep, hl, by rw [hres]; rfl, by simp [State.loadCost, hw]⟩

/-- A line that is read at once and puts no word at the decoder's input. -/
theorem loadGoesOn_of_line {s : State} {line : Line} {ls : List Line} {l : Loader} (hl : s.loading = true)
    (hw : s.words = []) (hs : s.lines = line :: ls) (hline : loadLine s.cfg s.loader (s.lineNo + 1) line = .ok l) :
    s.LoadGoesOn { s with lines := ls, lineNo := s.lineNo + 1, loader := l } where
  loading := hl
  answer := by
    rw [loadResult_of_no_words hw, loadResult_of_no_words (by exact hw), hs, loadFrom, hline]
    rfl
  cost := by simp [State.loadCost, hs]; omega

/-- The body of rule R49's loop for one line: the step on it answers the error, or goes on. -/
theorem step_line_of_load {s : State} {line : Line} {ls : List Line} (hl : s.loading = true) (hw : s.words = [])
    (hs : s.lines = line :: ls) :
    step s = .next (s.answerLoad s.loadResult) ∨ ∃ t, step s = .next t ∧ s.LoadGoesOn t := by
  have hstep := step_of_line hl hw hs
  have hres : s.loadResult = loadFrom s.cfg s.loader s.lineNo (line :: ls) := hs ▸ loadResult_of_no_words hw
  rcases readLine_cases line { s with lines := ls, lineNo := s.lineNo + 1 } with
    ⟨hscan, e⟩ | ⟨a, hscan, e⟩ | ⟨ws, hscan, e⟩ | ⟨er, hscan, e⟩ <;> rw [e] at hstep
  · exact .inr ⟨_, hstep, loadGoesOn_of_line hl hw hs (by simp only [loadLine, hscan])⟩
  · exact .inr ⟨_, hstep, loadGoesOn_of_line hl hw hs (by simp only [loadLine, hscan])⟩
  · have hlen := length_le_of_scanLine hscan
    simp only [loadFrom, loadLine, hscan] at hres
    exact .inr ⟨_, hstep, hl, by rw [hres]; rfl, by simp [State.loadCost, hs, hw]; omega⟩
  · simp only [loadFrom, loadLine, hscan] at hres
    exact .inl (hres ▸ hstep)

/-- One step of a load that runs: it answers the load, or the load goes on. -/
theorem step_of_load {s : State} (hl : s.loading = true) :
    step s = .next (s.answerLoad s.loadResult) ∨ ∃ t, step s = .next t ∧ s.LoadGoesOn t := by
  cases hw : s.words with
  | cons w ws => exact step_word_of_load hl hw
  | nil =>
    cases hs : s.lines with
    | cons line ls => exact step_line_of_load hl hw hs
    | nil => exact .inl (by rw [step_of_no_lines hl hw hs, loadResult_of_no_words hw, hs]; rfl)

/-- A load that runs is answered within its cost. -/
theorem run_of_load {s : State} (hl : s.loading = true) :
    ∃ n, n ≤ s.loadCost ∧ (Host.Core.run Sys2Proof.core n s : Host.Outcome State Fault Refusal) =
      .next (s.answerLoad s.loadResult) := by
  induction hc : s.loadCost using Nat.strong_induction_on generalizing s with
  | _ c ih =>
    subst hc
    rcases step_of_load hl with h | ⟨t, h, ht⟩
    · exact ⟨1, by simp only [State.loadCost]; omega, run_succ_of_step 0 h⟩
    · obtain ⟨n, hn, hrun⟩ := ih t.loadCost ht.cost ht.loading rfl
      refine ⟨n + 1, by have := ht.cost; omega, ?_⟩
      rw [run_succ_of_step n h, hrun, ht.answer]

/-- Settles O41: the call is taken in one step, and the load then answered within its cost. -/
theorem machineAnswersLoadWithRule49 : Obligations.MachineAnswersLoadWithRule49 := by
  intro s lines cs hl hw hc
  have htake : step s = .next (beginLoad lines { s with calls := cs }) := by
    simp [step_of_no_words hw, advance, hl, takeCall, hc]
  obtain ⟨n, hn, hrun⟩ := run_of_load (s := beginLoad lines { s with calls := cs }) rfl
  refine ⟨n + 1, ?_, (run_succ_of_step n htake).trans (hrun.trans ?_)⟩
  · simp only [State.loadCost, beginLoad, hw, List.length_nil] at hn
    omega
  · simp [State.answerLoad, State.loadResult, beginLoad, hw, loadWords, load, State.reply, State.endLoad, hl]

end Sys2Proof.Machine
end

section
/-!
PROOF. Loading is order-preserving: along a load, what is added to the segment at an address is the decodes of the
words met for that address (rules R46, R48).
-/

namespace Sys2Proof.Machine

/-- What `decode` yields for the words of a stream that were met for the address `a`, in the order met. -/
def decodesAt (cfg : Config) (a : LoadAddress) (stream : List (LoadAddress × Word)) : List DecodeResult :=
  (stream.filter (fun p => p.1 = a)).map (fun p => decode cfg.opimmF7Key p.2)

section decodesAt
variable (cfg : Config) (a : LoadAddress)

@[simp] theorem decodesAt_nil : decodesAt cfg a [] = [] := rfl

@[simp] theorem decodesAt_append (xs ys : List (LoadAddress × Word)) :
    decodesAt cfg a (xs ++ ys) = decodesAt cfg a xs ++ decodesAt cfg a ys := by
  simp [decodesAt]

theorem decodesAt_cons (c : LoadAddress) (w : Word) (stream : List (LoadAddress × Word)) :
    decodesAt cfg a ((c, w) :: stream) =
      (if c = a then [decode cfg.opimmF7Key w] else []) ++ decodesAt cfg a stream := by
  by_cases h : c = a <;> simp [decodesAt, h]

end decodesAt

theorem segment_append_same (m : MemoryImage) (a : LoadAddress) (ins : Instruction) :
    Memory.segment (Memory.append m a ins) a = Memory.segment m a ++ [ins] := by
  simp [Memory.segment, find?_append_same]

theorem segment_append_other {m : MemoryImage} {a b : LoadAddress} (ins : Instruction) (h : b ≠ a) :
    Memory.segment (Memory.append m a ins) b = Memory.segment m b := by
  simp [Memory.segment, find?_append_other m a b ins h]

/-- A header changes no segment: a new key's is empty, as that of a missing key reads (rule R43). -/
theorem segment_select (l : Loader) (a b : LoadAddress) :
    Memory.segment (l.select a).image b = Memory.segment l.image b := by
  rcases select_cases l a with ⟨-, e⟩ | ⟨ha, e⟩ <;> rw [e]
  by_cases hb : a = b
  · subst hb
    simp [Memory.segment, find?_addKey _ _ _ ha, (find?_eq_none_iff _ _).2 ha]
  · simp [Memory.segment, find?_addKey _ _ _ ha, hb]

/-- Between two loaders every segment grows by exactly the decodes of a stream's words for its address. -/
def Loader.GrowsBy (cfg : Config) (l l' : Loader) (stream : List (LoadAddress × Word)) : Prop :=
  ∀ a, (Memory.segment l'.image a).map DecodeResult.ok =
    (Memory.segment l.image a).map DecodeResult.ok ++ decodesAt cfg a stream

theorem growsBy_of_segments {cfg : Config} {l l' : Loader}
    (h : ∀ a, Memory.segment l'.image a = Memory.segment l.image a) : l.GrowsBy cfg l' [] := by
  intro a
  simp [h a]

theorem growsBy_trans {cfg : Config} {l l₁ l₂ : Loader} {xs ys : List (LoadAddress × Word)}
    (h₁ : l.GrowsBy cfg l₁ xs) (h₂ : l₁.GrowsBy cfg l₂ ys) : l.GrowsBy cfg l₂ (xs ++ ys) := by
  intro a
  rw [h₂ a, h₁ a, decodesAt_append, List.append_assoc]

theorem growsBy_append {cfg : Config} {l : Loader} {c : LoadAddress} {w : Word} {ins : Instruction}
    (hd : decode cfg.opimmF7Key w = .ok ins) : l.GrowsBy cfg (l.append c ins) [(c, w)] := by
  intro a
  rw [decodesAt_cons, append_image]
  by_cases h : a = c
  · subst h
    simp [segment_append_same, hd]
  · simp [segment_append_other ins h, Ne.symm h]

/-- The words of a data line, all at the address that is current there. -/
theorem loadWords_growsBy {cfg : Config} {n : Nat} {c : LoadAddress} {ws : List Word} {l l' : Loader}
    (hc : l.current = some c) (h : loadWords cfg l n ws = .ok l') :
    l'.current = some c ∧ l.GrowsBy cfg l' (ws.map (fun w => (c, w))) := by
  induction ws generalizing l with
  | nil => cases h; exact ⟨hc, growsBy_of_segments fun _ => rfl⟩
  | cons w ws ih =>
    obtain ⟨l₁, h₁, h₂⟩ := loadWords_cons_ok h
    obtain ⟨b, ins, hb, hd, rfl⟩ := loadWord_ok h₁
    cases hc.symm.trans hb
    obtain ⟨hcur, hgrow⟩ := ih (l := l.append c ins) hc h₂
    exact ⟨hcur, growsBy_trans (growsBy_append hd) hgrow⟩

/-- One line: what it adds to the segments is what the stream of words holds for it. -/
theorem loadLine_growsBy {cfg : Config} {n : Nat} {line : Line} {l l' : Loader}
    (h : loadLine cfg l (n + 1) line = .ok l') : ∃ xs, l.GrowsBy cfg l' xs ∧
      ∀ ls, wordStream cfg l.current n (line :: ls) = xs ++ wordStream cfg l'.current (n + 1) ls := by
  unfold loadLine at h
  split at h
  · next hs => cases h; exact ⟨[], growsBy_of_segments fun _ => rfl, fun ls => by simp [wordStream, hs]⟩
  · next a hs =>
    cases h
    exact ⟨[], growsBy_of_segments (segment_select l a), fun ls => by simp [wordStream, hs, select_current]⟩
  · next ws hs =>
    obtain ⟨c, hc⟩ := Option.ne_none_iff_exists'.1 (scanLine_data hs)
    obtain ⟨hcur, hgrow⟩ := loadWords_growsBy hc h
    rw [hc] at hs
    exact ⟨_, hgrow, fun ls => by simp [wordStream, hc, hs, hcur]⟩
  · cases h

theorem loadFrom_growsBy {cfg : Config} {lines : List Line} {l : Loader} {n : Nat} {image : MemoryImage}
    {diags : List Diagnostic} (h : loadFrom cfg l n lines = .ok image diags) :
    l.GrowsBy cfg { image := image, current := none, diags := diags } (wordStream cfg l.current n lines) := by
  induction lines generalizing l n with
  | nil => cases h; exact growsBy_of_segments fun _ => rfl
  | cons line ls ih =>
    obtain ⟨l', hline, hrest⟩ := loadFrom_cons_ok h
    obtain ⟨xs, hgrow, hstream⟩ := loadLine_growsBy hline
    rw [hstream ls]
    exact growsBy_trans hgrow (ih hrest)

/-- Settles O54: a load starts from an image whose every segment is empty. -/
theorem loadingPreservesOrder : Obligations.LoadingPreservesOrder := by
  intro cfg lines image diags h a
  exact (loadFrom_growsBy (l := Loader.initial) h a).symm

end Sys2Proof.Machine
end

section
/-!
PROOF. Every class completes, in every state, and leaves the rest of the state alone (rules R31, R39, R46, R259).
-/

namespace Sys2Proof.Machine

/-- A class that delivers a record completes with it. -/
theorem completesWith_of_accept {i : Instr} {r : Config → Instruction}
    (h : ∀ s : State, exec i s = .next (accept (r s.cfg) s)) : CompletesWith i r := by
  refine fun s => ⟨fun hl => ?_, fun a hl ha => ?_⟩ <;> rw [h s]
  · exact congrArg _ (accept_idle _ hl)
  · exact congrArg _ (accept_at _ hl ha)

/-- A class that raises an error on its own word completes with it. -/
theorem raisesWith_of_raise {i : Instr} {e : DecodeError}
    (h : ∀ s : State, exec i s = .next (raise (encode i) e s)) : RaisesWith i e := by
  refine fun s => ⟨fun hl => ?_, fun a hl ha => ?_⟩ <;> rw [h s]
  · exact congrArg _ (raise_idle _ e hl)
  · exact congrArg _ (raise_at _ e hl ha)

/-- Settles O28: each class delivers its record. -/
theorem loadClassesComplete : Obligations.LoadClassesComplete := by
  intro rd rs1 imm
  refine ⟨?_, ?_, ?_, ?_, ?_⟩ <;> exact completesWith_of_accept fun _ => rfl

/-- Settles O29: each class delivers its record. -/
theorem storeClassesComplete : Obligations.StoreClassesComplete := by
  intro rs1 rs2 imm
  refine ⟨?_, ?_, ?_⟩ <;> exact completesWith_of_accept fun _ => rfl

/-- An upper-immediate class delivers its record, whose immediate is of full width already (rule R93). -/
theorem completesWith_upper {i : Instr} {m : MajorOperation} {u : MicroOp} {rd : RegIndex} {imm : BitVec 32}
    (h : ∀ s : State, exec i s = .next (accept (upperRecord m u rd imm) s)) :
    CompletesWith i (fun _ => shapeU (opcodeOf m) m .INT u rd imm) :=
  completesWith_of_accept fun s => upperRecord_eq_shapeU m u rd imm ▸ h s

/-- Settles O30: each class delivers its record, format by format. -/
theorem wholeOpcodeClassesComplete : Obligations.WholeOpcodeClassesComplete := by
  refine ⟨fun rd rs1 f3 imm => ⟨?_, ?_, ?_⟩, fun rd imm => ⟨?_, ?_⟩, fun rd imm => ?_⟩
  · exact completesWith_of_accept fun _ => rfl
  · exact completesWith_of_accept fun _ => rfl
  · exact completesWith_of_accept fun _ => rfl
  · exact completesWith_upper (m := .auipc) fun _ => rfl
  · exact completesWith_upper (m := .lui) fun _ => rfl
  · exact completesWith_of_accept fun _ => rfl

/-- The "0" column is left only under `word_31_25`, for an immediate with one of its upper seven bits set (rule R141). -/
theorem opImmColumn_eq_ite (key : OpimmF7Key) (imm : BitVec 12) (zero nonZero : MicroOp) :
    opImmColumn key imm zero nonZero = if key = .word31_25 ∧ imm.extractLsb' 5 7 ≠ 0 then nonZero else zero := by
  cases key with
  | absentAsZero => rfl
  | word31_25 => by_cases h : imm.extractLsb' 5 7 = 0 <;> simp [opImmColumn, h]

/-- Settles O31: each class delivers its record; OP-IMM.0 and .5 with the micro-op of the column the setting selects. -/
theorem opImmClassesComplete : Obligations.OpImmClassesComplete := by
  intro rd rs1 imm
  simp only [← opImmColumn_eq_ite]
  refine ⟨?_, ?_, ?_, ?_, ?_, ?_, ?_, ?_⟩ <;> exact completesWith_of_accept fun _ => rfl

/-- Settles O32: each class delivers its record. -/
theorem opClassesComplete : Obligations.OpClassesComplete := by
  intro rd rs1 rs2 f7
  refine ⟨?_, ?_, ?_, ?_, ?_, ?_, ?_, ?_, ?_, ?_⟩ <;> exact completesWith_of_accept fun _ => rfl

/-- Settles O33: each class delivers its record. -/
theorem branchClassesComplete : Obligations.BranchClassesComplete := by
  intro rs1 rs2 imm
  refine ⟨?_, ?_, ?_, ?_, ?_, ?_⟩ <;> exact completesWith_of_accept fun _ => rfl

/-- Settles O34: each class raises its error on its own word. -/
theorem errorClassesComplete : Obligations.ErrorClassesComplete := by
  refine ⟨fun rd rs1 imm => ⟨?_, ?_, ?_⟩, fun rs1 rs2 imm => ⟨?_, ?_, ?_, ?_, ?_⟩, fun rs1 rs2 imm => ⟨?_, ?_⟩⟩ <;>
    exact raisesWith_of_raise fun _ => rfl

/-! ### The frame -/

/-- What a class leads to: a result for the caller, an instruction in the current segment, or the end of the load. -/
theorem exec_next_cases {i : Instr} {s t : State} (h : exec i s = .next t) :
    (s.loading = false ∧ ∃ r, t = s.reply (.decoded r)) ∨
    (s.loading = true ∧ ∃ a ins, s.loader.current = some a ∧ t = { s with loader := s.loader.append a ins }) ∨
    (s.loading = true ∧ ∃ e, t = s.abort e) := by
  rcases exec_cases i s with ⟨ins, e⟩ | ⟨er, e⟩ <;> cases e.symm.trans h
  · rcases accept_cases ins s with ⟨hl, e⟩ | ⟨hl, a, ha, e⟩ | ⟨hl, -, e⟩
    · exact .inl ⟨hl, _, e⟩
    · exact .inr (.inl ⟨hl, a, ins, ha, e⟩)
    · exact .inr (.inr ⟨hl, _, e⟩)
  · rcases raise_cases (encode i) er s with ⟨hl, e⟩ | ⟨hl, a, -, e⟩ | ⟨hl, -, e⟩
    · exact .inl ⟨hl, _, e⟩
    · exact .inr (.inr ⟨hl, _, e⟩)
    · exact .inr (.inr ⟨hl, _, e⟩)

/-- Settles O35: of what a class can lead to, each outcome has its own frame; an append is read back at the current
address and nowhere else. -/
theorem frameOfEveryClass : Obligations.FrameOfEveryClass := by
  intro i s t h
  rcases exec_next_cases h with ⟨hl, r, rfl⟩ | ⟨hl, a, ins, ha, rfl⟩ | ⟨hl, e, rfl⟩
  · have hn : s.loading ≠ true := by simp [hl]
    exact ⟨rfl, rfl, fun _ => ⟨r, rfl⟩, fun h => absurd h hn, fun h => absurd h hn⟩
  · have hn : s.loading ≠ false := by simp [hl]
    refine ⟨rfl, rfl, fun h => absurd h hn, fun _ _ => ?_, fun _ h => absurd h hn⟩
    exact ⟨rfl, rfl, rfl, rfl, rfl, rfl, a, ins, ha, find?_append_same _ a ins,
      fun b hb => find?_append_other _ a b ins hb, keys_append_of_mem ins⟩
  · have hn : s.loading ≠ false := by simp [hl]
    exact ⟨rfl, rfl, fun h => absurd h hn, fun _ h => absurd h Bool.false_ne_true, fun _ _ => ⟨e, rfl⟩⟩

end Sys2Proof.Machine
end

section
/-!
PROOF. The bytes of a word, the class of an encoded instruction, and the digits of tokens and payloads (rules R43 to
R45, R50).
-/

namespace Sys2Proof

/-! ### The class of an encoded instruction -/

/-- The class that a well-formed term's own word is put in is the term itself. -/
theorem classify_encode {i : Instr} (h : i.wellFormed = true) : classify i.majorOperation (encode i) = i := by
  cases i with
  | load0 | load1 | load2 | load3 | load4 | load5 | load6 | load7 =>
    simp [Instr.majorOperation, classify, classifyLoad, encode]
  | store0 | store1 | store2 | store3 | store4 | store5 | store6 | store7 =>
    simp [Instr.majorOperation, classify, classifyStore, encode]
  | miscMem | jalr | system => simp [Instr.majorOperation, classify, encode]
  | auipc rd imm | lui rd imm => simp [Instr.majorOperation, classify, encode, encodeU_imm _ rd imm h]
  | jal rd imm => simp [Instr.majorOperation, classify, encode, encodeJ_imm _ rd imm h]
  | opImm0 | opImm1 | opImm2 | opImm3 | opImm4 | opImm5 | opImm6 | opImm7 =>
    simp [Instr.majorOperation, classify, classifyOpImm, encode]
  | op0z | op1 | op2 | op3 | op4 | op5z | op6 | op7 => simp [Instr.majorOperation, classify, classifyOp, encode]
  | op0nz | op5nz =>
    have h7 := bne_iff_ne.1 h
    simp [Instr.majorOperation, classify, classifyOp, encode, h7]
  | branch0 rs1 rs2 imm | branch1 rs1 rs2 imm | branch2 rs1 rs2 imm | branch3 rs1 rs2 imm
  | branch4 rs1 rs2 imm | branch5 rs1 rs2 imm | branch6 rs1 rs2 imm | branch7 rs1 rs2 imm =>
    simp [Instr.majorOperation, classify, classifyBranch, encode, encodeB_imm _ _ rs1 rs2 imm h]

/-- The low seven bits of every class's word are its major operation's opcode (rules R81, R96). -/
theorem opcodeField_encode (i : Instr) : opcodeField (encode i) = opcodeOf i.majorOperation := by
  cases i <;> simp [encode, Instr.majorOperation]

theorem decodeWord_encode {i : Instr} (h : i.wellFormed = true) : decodeWord (encode i) = .ok i := by
  rw [decodeWord_of_opcode (opcodeField_encode i), classify_encode h]

/-! ### Bytes -/

/-- The bytes of a word, lowest first, give it back. -/
theorem decodeBytes_bytesOf (w : Word) (rest : List Byte) :
    decodeBytes (bytesOf w ++ rest) = (decodeWord w).map (fun i => (i, rest)) := by
  have hw : assemble (w.extractLsb' 0 8) (w.extractLsb' 8 8) (w.extractLsb' 16 8) (w.extractLsb' 24 8) = w := by
    simp [assemble]
  simp only [bytesOf, List.cons_append, List.nil_append, decodeBytes, hw]
  cases decodeWord w <;> rfl

/-- Settles O3: the bytes give the instruction's word back, and the word its class. -/
theorem bytesOfAnInstructionDecodeToIt : Obligations.BytesOfAnInstructionDecodeToIt := by
  intro i rest h
  rw [decodeBytes_bytesOf, decodeWord_encode h]
  rfl

theorem toNat_cat {m n k : Nat} (a : BitVec m) (b : BitVec n) (hk : m + n = k) :
    (cat k a b hk).toNat = 2 ^ n * a.toNat + b.toNat := by
  subst hk
  rw [cat, BitVec.cast_eq, BitVec.toNat_append, Nat.shiftLeft_eq, Nat.mul_comm,
    Nat.two_pow_add_eq_or_of_lt b.isLt]

theorem toNat_assemble (b0 b1 b2 b3 : Byte) :
    (assemble b0 b1 b2 b3).toNat = b0.toNat + 256 * b1.toNat + 65536 * b2.toNat + 16777216 * b3.toNat := by
  simp only [assemble, toNat_cat]
  omega

/-- Settles O7: each byte at its place, the word's value, and the groups of a line. -/
theorem wordsAreAssembledLittleEndian : Obligations.WordsAreAssembledLittleEndian := by
  refine ⟨fun b0 b1 b2 b3 => ⟨?_, ?_, ?_, ?_, toNat_assemble b0 b1 b2 b3⟩,
    fun _ _ _ _ _ => rfl, rfl⟩ <;> simp [assemble]

end Sys2Proof
end

section
/-!
PROOF. The digits of payloads and tokens (rules R43, R44).
-/

namespace Sys2Proof.Machine

/-! ### A header's payload -/

theorem decimalDigit_iff (c : Char) (d : Nat) :
    decimalDigit c = some d ↔ ('0'.toNat ≤ c.toNat ∧ c.toNat ≤ '9'.toNat) ∧ c.toNat - '0'.toNat = d := by
  have h0 : '0'.toNat = 48 := rfl
  have h9 : '9'.toNat = 57 := rfl
  simp [decimalDigit, h0, h9]

/-- Digits read after a value, one decimal place for each. -/
theorem decimalFrom_iff (value : Nat) (cs : List Char) (a : Nat) :
    decimalFrom value cs = some a ↔
      (∀ c ∈ cs, '0'.toNat ≤ c.toNat ∧ c.toNat ≤ '9'.toNat) ∧
      a = cs.foldl (fun v c => 10 * v + (c.toNat - '0'.toNat)) value := by
  induction cs generalizing value with
  | nil => simp [decimalFrom, eq_comm]
  | cons c cs ih =>
    rw [decimalFrom, List.forall_mem_cons, List.foldl_cons, and_assoc]
    by_cases hc : '0'.toNat ≤ c.toNat ∧ c.toNat ≤ '9'.toNat
    · have hd := (decimalDigit_iff c _).2 ⟨hc, rfl⟩
      simp only [hd, ih, hc, true_and]
    · have hd : decimalDigit c = none := Option.eq_none_iff_forall_ne_some.2 fun d h => hc ((decimalDigit_iff c d).1 h).1
      simp only [hd, hc, false_and, reduceCtorEq]

/-- Settles O49: a payload that is not empty is read from the value 0. -/
theorem payloadIsDecimal : Obligations.PayloadIsDecimal := by
  intro p a
  cases p with
  | nil => simp [parseDecimal]
  | cons c cs => simpa [parseDecimal] using decimalFrom_iff 0 (c :: cs) a

/-! ### A data line's token -/

theorem hexDigit_iff (c : Char) (v : Nat) : hexDigit c = some v ↔ HexDigitIs c v := by
  have h0 : '0'.toNat = 48 := rfl
  have ha : 'a'.toNat = 97 := rfl
  have hA : 'A'.toNat = 65 := rfl
  simp only [hexDigit, HexDigitIs, h0, ha, hA, Bool.and_eq_true, decide_eq_true_eq]
  split_ifs <;> simp only [Option.some.injEq, false_iff] <;> omega

theorem hexPair_lt {hi lo : Char} {h l : Nat} (hhi : HexDigitIs hi h) (hlo : HexDigitIs lo l) : 16 * h + l < 256 := by
  unfold HexDigitIs at hhi hlo
  omega

theorem parseByte_iff (t : List Char) (b : Byte) :
    parseByte t = some b ↔
      ∃ hi lo h l, t = [hi, lo] ∧ hexDigit hi = some h ∧ hexDigit lo = some l ∧ BitVec.ofNat 8 (16 * h + l) = b := by
  unfold parseByte
  split
  · next hi lo =>
    cases hh : hexDigit hi <;> cases hl : hexDigit lo <;> simp [hh, hl]
  · next hne =>
    simp only [reduceCtorEq, false_iff]
    rintro ⟨hi, lo, h, l, ht, -⟩
    exact hne hi lo ht

/-- Settles O51: the value of two hexadecimal digits fits in a byte. -/
theorem tokenIsTwoHexDigits : Obligations.TokenIsTwoHexDigits := by
  intro t b
  simp only [parseByte_iff, hexDigit_iff]
  constructor
  · rintro ⟨hi, lo, h, l, ht, hhi, hlo, rfl⟩
    exact ⟨hi, lo, h, l, ht, hhi, hlo, Nat.mod_eq_of_lt (hexPair_lt hhi hlo)⟩
  · rintro ⟨hi, lo, h, l, ht, hhi, hlo, hb⟩
    exact ⟨hi, lo, h, l, ht, hhi, hlo, BitVec.eq_of_toNat_eq ((Nat.mod_eq_of_lt (hexPair_lt hhi hlo)).trans hb.symm)⟩

end Sys2Proof.Machine
end

section
/-!
PROOF. The step on a line of a load, by what the line is: a header, a blank line or a data line (rules R43, R44, R47,
R60, R61, R256, R257); what a step runs; and where an instruction stands (rule R54).
-/

namespace Sys2Proof.Machine

section scan
variable {current : Option LoadAddress} {n : Nat} {cs : List Char}

theorem scanData_of_count (h : ¬ ((tokens cs).length ≠ 0 ∧ 4 ∣ (tokens cs).length)) :
    scanData current n cs = .bad (.fileFormat n (.tokenCount (tokens cs).length)) := by
  have hc : (tokens cs).length = 0 ∨ (tokens cs).length % 4 ≠ 0 := by omega
  simp only [scanData, if_pos hc]

theorem scanData_of_bad_token {t : List Char} (h0 : (tokens cs).length ≠ 0) (h4 : 4 ∣ (tokens cs).length)
    (h : parseBytes (tokens cs) = .error t) : scanData current n cs = .bad (.fileFormat n (.badToken t)) := by
  have hc : ¬ ((tokens cs).length = 0 ∨ (tokens cs).length % 4 ≠ 0) := by omega
  simp only [scanData, if_neg hc, h]

theorem scanData_of_bytes {bs : List Byte} (h0 : (tokens cs).length ≠ 0) (h4 : 4 ∣ (tokens cs).length)
    (h : parseBytes (tokens cs) = .ok bs) :
    scanData none n cs = .bad (.fileFormat n .beforeHeader) ∧
    ∀ a, scanData (some a) n cs = .data (groupWords bs) := by
  have hc : ¬ ((tokens cs).length = 0 ∨ (tokens cs).length % 4 ≠ 0) := by omega
  simp only [scanData, if_neg hc, h, implies_true, and_self]

variable {cfg : Config} {line : Line}

theorem scanLine_header (h : trim line = '@' :: cs) : scanLine cfg current n line = scanHeader n cs := by
  simp [scanLine, h]

theorem scanLine_data_line {c : Char} (h : trim line = c :: cs) (hc : c ≠ '@') :
    scanLine cfg current n line = scanData current n (c :: cs) := by
  simp [scanLine, h, hc]

end scan

section step
variable {s : State} {line : Line} {ls : List Line}

/-- A line that fails ends the load. -/
theorem step_of_bad_line {e : LoadError} (hl : s.loading = true) (hw : s.words = []) (hs : s.lines = line :: ls)
    (h : scanLine s.cfg s.loader.current (s.lineNo + 1) line = .bad e) : step s = .next (afterAbort s e) := by
  rw [step_of_line hl hw hs, readLine, h]
  rfl

theorem step_of_header {a : LoadAddress} (hl : s.loading = true) (hw : s.words = []) (hs : s.lines = line :: ls)
    (h : scanLine s.cfg s.loader.current (s.lineNo + 1) line = .header a) :
    step s = .next { s with lines := ls, lineNo := s.lineNo + 1, loader := s.loader.select a } := by
  rw [step_of_line hl hw hs, readLine, h]

theorem step_of_data {ws : List Word} (hl : s.loading = true) (hw : s.words = []) (hs : s.lines = line :: ls)
    (h : scanLine s.cfg s.loader.current (s.lineNo + 1) line = .data ws) :
    step s = .next { s with lines := ls, lineNo := s.lineNo + 1, words := ws } := by
  rw [step_of_line hl hw hs, readLine, h]

theorem step_of_skipped (hl : s.loading = true) (hw : s.words = []) (hs : s.lines = line :: ls)
    (h : scanLine s.cfg s.loader.current (s.lineNo + 1) line = .skipped) :
    step s = .next { s with lines := ls, lineNo := s.lineNo + 1 } := by
  rw [step_of_line hl hw hs, readLine, h]

end step

theorem select_of_mem {l : Loader} {a : LoadAddress} (h : a ∈ Memory.keys l.image) :
    l.select a = { l with current := some a, diags := l.diags ++ [.duplicateAddress a] } := by
  rcases select_cases l a with ⟨-, e⟩ | ⟨hn, -⟩
  · exact e
  · exact absurd h hn

theorem select_of_not_mem {l : Loader} {a : LoadAddress} (h : a ∉ Memory.keys l.image) :
    l.select a = { l with current := some a, image := l.image ++ [(a, [])] } := by
  rcases select_cases l a with ⟨hm, -⟩ | ⟨-, e⟩
  · exact absurd hm h
  · exact e

/-- Settles O50: a valid payload selects its address, any other ends the load. -/
theorem addressHeaderSelectsTheSegment : Obligations.AddressHeaderSelectsTheSegment := by
  intro s line ls afterAt hl hw hs ht
  have hscan := scanLine_header (cfg := s.cfg) (current := s.loader.current) (n := s.lineNo + 1) ht
  refine ⟨fun a hp hmem => ?_, fun a hp hmem => ?_, fun hp => ?_⟩ <;> simp only [scanHeader, hp] at hscan
  · rw [step_of_header hl hw hs hscan, select_of_mem hmem]
  · rw [step_of_header hl hw hs hscan, select_of_not_mem hmem]
  · exact step_of_bad_line hl hw hs hscan

/-- Settles O52: the count, then the tokens, then the current address, each as `scanData` checks it. -/
theorem dataLineChecksInOrder : Obligations.DataLineChecksInOrder := by
  intro s line ls c cs hl hw hs ht hc
  have hscan := scanLine_data_line (cfg := s.cfg) (current := s.loader.current) (n := s.lineNo + 1) ht hc
  refine ⟨fun h => ?_, fun h0 h4 => ⟨fun good t bad hts hgood hbad => ?_, fun bytes hmap => ?_⟩⟩
  · exact step_of_bad_line hl hw hs (hscan.trans (scanData_of_count h))
  · have hparse : parseBytes (tokens (c :: cs)) = .error t := hts ▸ parseBytes_first_bad bad hgood hbad
    exact step_of_bad_line hl hw hs (hscan.trans (scanData_of_bad_token h0 h4 hparse))
  · have hparse := parseBytes_ok_of_map hmap
    obtain ⟨hnone, hsome⟩ := scanData_of_bytes (n := s.lineNo + 1) h0 h4 hparse
    refine ⟨fun ha => ?_, fun ha => ⟨?_, ?_⟩⟩
    · rw [ha, hnone] at hscan
      exact step_of_bad_line hl hw hs (ha ▸ hscan)
    · obtain ⟨a, ha⟩ := Option.ne_none_iff_exists'.1 ha
      rw [ha, hsome a] at hscan
      exact step_of_data hl hw hs (ha ▸ hscan)
    · rw [length_groupWords, length_of_parseBytes hparse]
      omega

/-- Settles O53: a blank line is trimmed to nothing, and the policy says what that means. -/
theorem blankLinePolicyIsKept : Obligations.BlankLinePolicyIsKept := by
  intro s line ls hl hw hs hblank
  have htrim := trim_of_allBlank hblank
  refine ⟨fun hp => step_of_bad_line hl hw hs ?_, fun hp => step_of_skipped hl hw hs ?_⟩
  · simp only [scanLine, htrim, hp]
    exact scanData_of_count (by simp [tokens, splitTokens])
  · simp only [scanLine, htrim, hp]

/-- Settles O37: what `step` does with the oldest word, and with none. -/
theorem stepRunsTheDecodedInstruction : Obligations.StepRunsTheDecodedInstruction := by
  refine fun s => ⟨fun w ws i hw hd => ?_, fun w ws r hw hd => ?_, fun hw hl => step_loading hl hw, fun hw hl => ?_⟩
  · simp only [step, fetch_cons hw, hd]
  · simp only [step, fetch_cons hw, hd]
  · simp [step_of_no_words hw, advance, hl]

/-- Settles O57: the default stride is 4, and the byte offset is the address's second term. -/
theorem instructionAddressIsFourApart : Obligations.InstructionAddressIsFourApart :=
  fun _ _ _ => ⟨rfl, rfl⟩

end Sys2Proof.Machine
end

section
/-!
PROOF. The round trip between words and classes (30_encoding.md sections 3 and 4): a well-formed class's word has that
class, and a word's class is well-formed and has that word.
-/

namespace Sys2Proof

/-- Settles O1: the encoded word has the class's opcode, and its fields are the class's operands. -/
theorem decodeOfEncodeGivesTheInstruction : Obligations.DecodeOfEncodeGivesTheInstruction :=
  fun _ h => decodeWord_encode h

/-- Settles O2: only a word of a known major operation has a class, and its format's fields cover every bit. -/
theorem encodeOfDecodeGivesTheWord : Obligations.EncodeOfDecodeGivesTheWord := by
  intro w i h
  rcases Machine.decodeWord_cases w with ⟨m, ho, hd⟩ | ⟨-, hd⟩
  · cases hd.symm.trans h
    exact ⟨encode_classify ho, wellFormed_classify m w⟩
  · cases hd.symm.trans h

end Sys2Proof
end

section
/-!
PROOF. The fields of a successful decode (rules R88 and R89) and its immediate: range, multiple and sign (rules R90 to
R95).
-/

namespace Sys2Proof.Machine

/-- Settles O12: a successful decode is its format's record, and each format defines its own fields. -/
theorem registerAndFunctFieldsByFormat : Obligations.RegisterAndFunctFieldsByFormat := by
  intro T key w i h
  obtain ⟨m, u, rfl⟩ := record_of_decodeWith_ok h
  generalize T.formatOf m = f
  cases f <;> exact ⟨rfl, rfl, rfl, rfl, rfl, rfl⟩

theorem immediate_of_decodeWith_ok {T : Tables} {key : OpimmF7Key} {w : Word} {i : Instruction}
    (h : decodeWith T key w = .ok i) : i.immediate = immediateOf i.format w := by
  obtain ⟨m, u, rfl⟩ := record_of_decodeWith_ok h
  rfl

/-! ### The sign -/

theorem msb_cat {m n k : Nat} (a : BitVec m) (b : BitVec n) (hk : m + n = k) (hm : m ≠ 0) : (cat k a b hk).msb = a.msb := by
  simp [cat, BitVec.msb_append, hm]

theorem msb_sext32 {n : Nat} (x : BitVec n) (h : n ≤ 32) : (sext32 x).msb = x.msb := by
  simp only [BitVec.msb_eq_toInt, sext32, BitVec.toInt_signExtend_of_le h]

/-- The top bit of every format's immediate is bit 31 of the word (rule R95). -/
theorem msb_immediateOf {f : InstrFormat} {w : Word} {v : Immediate} (h : immediateOf f w = some v) : v.msb = w.msb := by
  change v.msb = w.getMsbD 0
  cases f <;> cases h
  case I => simp [msb_sext32, immFieldI]
  case S => simp [msb_sext32, immFieldS, msb_cat]
  case B => simp [msb_sext32, immFieldB, msb_cat]
  case U => simp [msb_sext32, immFieldU, msb_cat]
  case J => simp [msb_sext32, immFieldJ, msb_cat]

theorem immediate_neg_iff {f : InstrFormat} {w : Word} {v : Immediate} (h : immediateOf f w = some v) :
    v.toInt < 0 ↔ w.getLsbD 31 = true := by
  have hm := msb_immediateOf h
  rwa [BitVec.msb_eq_toInt, BitVec.msb_eq_getLsbD_last, Bool.eq_iff_iff, decide_eq_true_iff] at hm

/-- Settles O15: the top bit of the immediate is bit 31 of the word, and 32 bits hold less than 2^31. -/
theorem immediateNegativeExactlyWhenBit31 : Obligations.ImmediateNegativeExactlyWhenBit31 := by
  intro T key w i v h hv
  have hneg := immediate_neg_iff ((immediate_of_decodeWith_ok h).symm.trans hv)
  exact ⟨hneg, fun h31 => ⟨not_lt.1 fun hlt => Bool.false_ne_true (h31.symm.trans (hneg.1 hlt)), BitVec.toInt_lt⟩⟩

/-! ### The range and the multiple -/

/-- Sign extension keeps the range of the field's own width (rules R90, R91). -/
theorem toInt_sext32_bounds {n : Nat} (x : BitVec n) (h : n ≤ 32) :
    -2 ^ (n - 1) ≤ (sext32 x).toInt ∧ (sext32 x).toInt < 2 ^ (n - 1) := by
  rw [sext32, BitVec.toInt_signExtend_of_le h]
  exact ⟨BitVec.le_toInt x, BitVec.toInt_lt⟩

/-- Zeros written below a field scale its value, and with it its range (rules R92 to R94). -/
theorem toInt_sext32_cat_zero {m n k : Nat} (a : BitVec m) (hk : m + n = k) (h : k ≤ 32) :
    2 ^ n * -2 ^ (m - 1) ≤ (sext32 (cat k a 0#n hk)).toInt ∧
    (sext32 (cat k a 0#n hk)).toInt ≤ 2 ^ n * (2 ^ (m - 1) - 1) ∧ (sext32 (cat k a 0#n hk)).toInt % 2 ^ n = 0 := by
  have hv : (sext32 (cat k a 0#n hk)).toInt = 2 ^ n * a.toInt := by
    subst hk
    rw [sext32, BitVec.toInt_signExtend_of_le h, cat, BitVec.cast_eq, BitVec.toInt_append_zero]
  have hn : (0 : Int) ≤ 2 ^ n := by positivity
  rw [hv]
  exact ⟨mul_le_mul_of_nonneg_left (BitVec.le_toInt a) hn,
    mul_le_mul_of_nonneg_left (Int.le_sub_one_of_lt BitVec.toInt_lt) hn, Int.mul_emod_right _ _⟩

theorem toInt_immFieldB_bounds (w : Word) :
    -4096 ≤ (sext32 (immFieldB w)).toInt ∧ (sext32 (immFieldB w)).toInt ≤ 4094 ∧ (sext32 (immFieldB w)).toInt % 2 = 0 :=
  toInt_sext32_cat_zero _ _ (by decide)

theorem toInt_immFieldU_bounds (w : Word) :
    -2147483648 ≤ (sext32 (immFieldU w)).toInt ∧ (sext32 (immFieldU w)).toInt ≤ 2147479552 ∧
    (sext32 (immFieldU w)).toInt % 4096 = 0 :=
  toInt_sext32_cat_zero _ _ (by decide)

theorem toInt_immFieldJ_bounds (w : Word) :
    -1048576 ≤ (sext32 (immFieldJ w)).toInt ∧ (sext32 (immFieldJ w)).toInt ≤ 1048574 ∧
    (sext32 (immFieldJ w)).toInt % 2 = 0 :=
  toInt_sext32_cat_zero _ _ (by decide)

/-- Settles O14: each format's immediate is its field sign-extended, with the field's range, multiple and sign. -/
theorem immediateByFormat : Obligations.ImmediateByFormat := by
  intro T key w i h
  have him := immediate_of_decodeWith_ok h
  refine ⟨fun hf => ?_, fun hf => ?_, fun hf => ?_, fun hf => ?_, fun hf => ?_, fun hf => ?_⟩ <;> rw [hf] at him
  · exact him
  · obtain ⟨hlo, hhi⟩ := toInt_sext32_bounds (immFieldI w) (by decide)
    exact ⟨_, him, rfl, hlo, Int.le_sub_one_of_lt hhi, immediate_neg_iff (f := .I) rfl⟩
  · obtain ⟨hlo, hhi⟩ := toInt_sext32_bounds (immFieldS w) (by decide)
    exact ⟨_, him, rfl, hlo, Int.le_sub_one_of_lt hhi, immediate_neg_iff (f := .S) rfl⟩
  · obtain ⟨hlo, hhi, heven⟩ := toInt_immFieldB_bounds w
    exact ⟨_, him, rfl, hlo, hhi, heven, immediate_neg_iff (f := .B) rfl⟩
  · obtain ⟨hlo, hhi, hmul⟩ := toInt_immFieldU_bounds w
    exact ⟨_, him, BitVec.signExtend_eq _, hlo, hhi, hmul, immediate_neg_iff (f := .U) rfl⟩
  · obtain ⟨hlo, hhi, heven⟩ := toInt_immFieldJ_bounds w
    exact ⟨_, him, rfl, hlo, hhi, heven, immediate_neg_iff (f := .J) rfl⟩

end Sys2Proof.Machine
end

section
/-!
PROOF. What `decode` decides about a word: an opcode that is none of the eleven fails (rules R99, R252); with a known one
the micro-op table, read as rule R139's function, says whether the word decodes and to what (rules R100, R102, R253).
-/

namespace Sys2Proof.Machine

/-! ### The opcode -/

theorem mem_majorOperation_all (m : MajorOperation) : m ∈ MajorOperation.all := by
  cases m <;> decide

theorem majorOf_eq_none_iff (T : Tables) (o : Opcode) : majorOf T o = none ↔ ∀ m, T.opcode m ≠ o := by
  simp [majorOf, List.find?_eq_none, mem_majorOperation_all]

/-- The error of step 3 is raised for no other cause (rule R252). -/
theorem decodeWith_unknown_iff (T : Tables) (key : OpimmF7Key) (w : Word) :
    decodeWith T key w = .err (.unsupportedOpcode (.unknownOpcode (opcodeField w))) ↔ majorOf T (opcodeField w) = none := by
  refine ⟨fun h => ?_, decodeWith_of_unknown⟩
  cases hm : majorOf T (opcodeField w) with
  | none => rfl
  | some m =>
    cases hu : lookupMicroOp T m (funct3Of (T.formatOf m) w) (funct7Key key (funct7Of (T.formatOf m) w) w) with
    | none => cases (decodeWith_of_noEntry hm rfl hu).symm.trans h
    | some u => cases (decodeWith_of_entry hm rfl hu).symm.trans h

/-- The low two bits of all eleven opcodes are 11. -/
theorem opcodeOf_low_bits (m : MajorOperation) : (opcodeOf m).extractLsb' 0 2 = 3#2 := by
  cases m <;> rfl

theorem decode_of_low_bits (key : OpimmF7Key) {w : Word} (h : w.extractLsb' 0 2 ≠ 3#2) :
    decode key w = .err (.unsupportedOpcode (.unknownOpcode (opcodeField w))) := by
  refine decodeWith_of_unknown ((majorOf_eq_none_iff _ _).2 fun m hm => h ?_)
  have hlow : (opcodeField w).extractLsb' 0 2 = 3#2 := hm ▸ opcodeOf_low_bits m
  simpa [opcodeField] using hlow

/-- Settles O9: the error of step 3 against the opcode table, and the default opcodes counted. -/
theorem unknownOpcodeIsUnsupported : Obligations.UnknownOpcodeIsUnsupported := by
  refine ⟨fun T key w => ?_, fun key w h => decode_of_low_bits key h, rfl, fun key => ?_, fun key => ?_⟩
  · exact (majorOf_eq_none_iff T _).symm.trans (decodeWith_unknown_iff T key w).symm
  · exact decodeWith_of_unknown (by decide)
  · exact decode_of_low_bits key (by decide)

/-! ### The micro-op -/

/-- The printed table is rule R139's function; funct7 is consulted for OP-IMM and OP with funct3 0 and 5 alone. -/
theorem lookupMicroOp_eq_rule139 (m : MajorOperation) (f3 : Funct3) (k : Funct7) :
    lookupMicroOp defaultTables m (some f3) k = rule139 m f3 k := by
  cases m with
  | load | store | branch | jalr | jal | auipc | lui | system | miscMem =>
    rcases funct3_cases f3 with rfl | rfl | rfl | rfl | rfl | rfl | rfl | rfl <;> rfl
  | opImm | op =>
    rcases funct3_cases f3 with rfl | rfl | rfl | rfl | rfl | rfl | rfl | rfl
    case inl => exact (lookup_alu_zero (by simp) k).trans (apply_ite some _ _ _)
    case inr.inr.inr.inr.inr.inl => exact (lookup_alu_five (by simp) k).trans (apply_ite some _ _ _)
    all_goals rfl

/-- Where the format has no funct3, only rows that do not consult it are left (rule R139). -/
theorem lookupMicroOp_of_format (m : MajorOperation) (w : Word) (k : Funct7) :
    lookupMicroOp defaultTables m (funct3Of (formatOf m) w) k = rule139 m (funct3Field w) k := by
  cases m with
  | auipc | lui | jal => rfl
  | load | store | branch | jalr | opImm | op | system | miscMem => exact lookupMicroOp_eq_rule139 _ _ k

/-- The funct3 values without an entry are those of rule R100's table. -/
theorem rule139_eq_none_iff (m : MajorOperation) (f3 : Funct3) (k : Funct7) :
    rule139 m f3 k = none ↔ f3 ∈ absentFunct3 m := by
  cases m with
  | load | store | branch =>
    simp only [rule139, absentFunct3]
    revert f3; decide
  | opImm | op =>
    simp only [rule139, absentFunct3]
    split_ifs <;> simp
  | jalr | jal | auipc | lui | system | miscMem => simp [rule139, absentFunct3]

/-- Whether funct7 is zero matters with funct3 0 and 5 alone (rules R102, R139). -/
theorem rule139_congr (m : MajorOperation) {f3 : Funct3} {k k' : Funct7} (h : f3 = 0 ∨ f3 = 5 → (k = 0 ↔ k' = 0)) :
    rule139 m f3 k = rule139 m f3 k' := by
  cases m with
  | opImm | op =>
    by_cases h3 : f3 = 0 ∨ f3 = 5
    · simp only [rule139, h h3]
    · obtain ⟨h0, h5⟩ := not_or.1 h3
      simp only [rule139, if_neg h0, if_neg h5]
  | load | store | branch | jalr | jal | auipc | lui | system | miscMem => rfl

section known
variable {key : OpimmF7Key} {w : Word} {m : MajorOperation}

theorem decode_of_rule139 {u : MicroOp} (ho : opcodeField w = opcodeOf m)
    (hu : rule139 m (funct3Field w) (funct7Key key (funct7Of (formatOf m) w) w) = some u) :
    decode key w = .ok (recordAs (formatOf m) m u w) :=
  decodeWith_of_entry (majorOf_default ho) rfl ((lookupMicroOp_of_format m w _).trans hu)

theorem decision_of_opcode (ho : opcodeField w = opcodeOf m) :
    (decode key w).decision = (rule139 m (funct3Field w) (funct7Key key (funct7Of (formatOf m) w) w)).map
      fun u => (formatOf m, m, executionUnit m, u) := by
  cases hu : rule139 m (funct3Field w) (funct7Key key (funct7Of (formatOf m) w) w) with
  | some u => rw [decode_of_rule139 ho hu]; rfl
  | none => rw [decode, decodeWith_of_noEntry (majorOf_default ho) rfl ((lookupMicroOp_of_format m w _).trans hu)]; rfl

/-- Rule R100's words are of a format with funct3 and without funct7. -/
theorem failsAtStep9_of_absent (ho : opcodeField w = opcodeOf m) (h : funct3Field w ∈ absentFunct3 m) :
    FailsAtStep9 key w m := by
  have hu (k : Funct7) := (lookupMicroOp_eq_rule139 m _ k).trans ((rule139_eq_none_iff m _ k).2 h)
  cases m with
  | load | store | branch => exact decode_of_noEntry ho rfl rfl rfl (hu _)
  | jalr | jal | opImm | op | auipc | lui | system | miscMem => cases h

end known

/-- Settles O10: with a known opcode, whether a word decodes is whether rule R139's function is defined. -/
theorem absentMicroOpIsUnsupported : Obligations.AbsentMicroOpIsUnsupported := by
  refine fun key w m ho => ⟨failsAtStep9_of_absent ho, fun h => ?_⟩
  obtain ⟨u, hu⟩ := Option.ne_none_iff_exists'.1 (mt (rule139_eq_none_iff m _ _).1 h)
  exact ⟨_, decode_of_rule139 ho hu⟩

/-- Settles O19: the major operation is the opcode's, and rule R139's function is asked for the same values. -/
theorem decisionDependsOnTestedBitsOnly : Obligations.DecisionDependsOnTestedBitsOnly := by
  rintro w v ⟨(ho : opcodeField w = opcodeField v), (h3 : opcodeField w ∉ _ → funct3Field w = funct3Field v),
    (h7 : opcodeField w = _ → funct3Field w = 0 ∨ funct3Field w = 5 → (funct7Field w = 0 ↔ funct7Field v = 0))⟩
  rcases decodeWord_cases w with ⟨m, hw, -⟩ | ⟨hw, -⟩
  · have hv : opcodeField v = opcodeOf m := ho.symm.trans hw
    rw [decision_of_opcode hw, decision_of_opcode hv]
    rw [hw] at h3 h7
    congr 1
    cases m with
    | jalr | jal | auipc | lui | system | miscMem => rfl
    | load | store | branch | opImm => exact congrArg (rule139 _ · 0) (h3 (by decide))
    | op =>
      have hf : funct3Field w = funct3Field v := h3 (by decide)
      rw [← hf]
      exact rule139_congr .op (h7 rfl)
  · have hv : majorOf defaultTables (opcodeField v) = none := ho ▸ hw
    rw [decode, decode, decodeWith_of_unknown hw, decodeWith_of_unknown hv]
    rfl

end Sys2Proof.Machine
end

section
/-!
PROOF. The opcode table (rule R103): a row looks at a word's opcode, funct3 and whether its funct7 is zero, as its class
and its decision do, so one word for each such key stands for all.
-/

namespace Sys2Proof.Machine

/-! ### What a row looks at -/

/-- What no row, class or decision sees past. -/
structure SameKey (w v : Word) : Prop where
  opcode : opcodeField w = opcodeField v
  funct3 : funct3Field w = funct3Field v
  funct7 : funct7Field w = 0#7 ↔ funct7Field v = 0#7

/-- The three masks of the table; a row that looks at funct7 asks for zero. -/
theorem row_mask {r : TableRow} (hr : r ∈ opcodeTable) :
    r.mask = 0x0000007F#32 ∨ r.mask = 0x0000707F#32 ∨ (r.mask = 0xFE00707F#32 ∧ funct7Field r.pattern = 0#7) := by
  revert r
  decide

theorem row_opcode {r : TableRow} (hr : r ∈ opcodeTable) : opcodeField r.pattern = opcodeOf r.major := by
  revert r
  decide

theorem fits_iff (r : TableRow) (w : Word) : r.fits w = true ↔ w &&& r.mask = r.pattern := beq_iff_eq

/-- A word fits rows of its own opcode alone. -/
theorem opcode_of_fits {r : TableRow} {w : Word} (hr : r ∈ opcodeTable) (h : r.fits w = true) :
    opcodeField w = opcodeOf r.major := by
  rw [fits_iff] at h
  rw [← row_opcode hr, ← h]
  rcases row_mask hr with hm | hm | ⟨hm, -⟩ <;>
    simp [hm, and_mask_opcode, and_mask_funct3, and_mask_funct7, opcodeField]

theorem funct7_of_fits {r : TableRow} {w : Word} (hm : r.mask = 0xFE00707F#32) (h7 : funct7Field r.pattern = 0#7)
    (h : r.fits w = true) : funct7Field w = 0#7 := by
  rw [fits_iff, hm, and_mask_funct7] at h
  rw [← h7, ← h]
  simp [funct7Field]

theorem SameKey.symm {w v : Word} (h : SameKey w v) : SameKey v w := ⟨h.opcode.symm, h.funct3.symm, h.funct7.symm⟩

theorem SameKey.fits {r : TableRow} {w v : Word} (h : SameKey w v) (hr : r ∈ opcodeTable) (hw : r.fits w = true) :
    r.fits v = true := by
  have hw' := (fits_iff r w).1 hw
  rw [fits_iff, ← hw']
  rcases row_mask hr with hm | hm | ⟨hm, hp⟩
  · rw [hm, and_mask_opcode, and_mask_opcode, h.opcode]
  · rw [hm, and_mask_funct3, and_mask_funct3, h.opcode, h.funct3]
  · have h7 := funct7_of_fits hm hp hw
    rw [hm, and_mask_funct7, and_mask_funct7, h.opcode, h.funct3, h7, h.funct7.1 h7]

theorem SameKey.rowOf_eq {w v : Word} (h : SameKey w v) : rowOf w = rowOf v :=
  List.find?_congr fun _ hr => Bool.eq_iff_iff.2 ⟨h.fits hr, h.symm.fits hr⟩

theorem SameKey.mnemonic_eq {w v : Word} (h : SameKey w v) (m : MajorOperation) :
    (classify m w).mnemonic = (classify m v).mnemonic := by
  cases m with
  | load => simp only [classify, classifyLoad, h.funct3]; split_ifs <;> rfl
  | store => simp only [classify, classifyStore, h.funct3]; split_ifs <;> rfl
  | branch => simp only [classify, classifyBranch, h.funct3]; split_ifs <;> rfl
  | opImm => simp only [classify, classifyOpImm, h.funct3]; split_ifs <;> rfl
  | op => simp only [classify, classifyOp, h.funct3, h.funct7]; split_ifs <;> rfl
  | jalr | jal | auipc | lui | system | miscMem => rfl

theorem SameKey.decision_eq {w v : Word} (h : SameKey w v) :
    (decode .absentAsZero w).decision = (decode .absentAsZero v).decision :=
  decisionDependsOnTestedBitsOnly w v ⟨h.opcode, fun _ => h.funct3, fun _ _ => h.funct7⟩

/-! ### One word for each key -/

/-- The word of a key whose other bits are zero. -/
def keyWord (m : MajorOperation) (f3 : Funct3) (funct7Zero : Bool) : Word :=
  encodeR m f3 0 0 0 (if funct7Zero then 0 else 1)

theorem sameKey_keyWord {w : Word} {m : MajorOperation} (ho : opcodeField w = opcodeOf m) :
    SameKey w (keyWord m (funct3Field w) (funct7Field w == 0#7)) where
  opcode := by simp [keyWord, ho]
  funct3 := by simp [keyWord]
  funct7 := by by_cases h : funct7Field w = 0#7 <;> simp [keyWord, h]

/-- A row's result as `decode`'s decision. -/
def rowDecision (r : TableRow) : Option (InstrFormat × MajorOperation × ExecutionUnit × MicroOp) :=
  r.result.map fun p => (r.format, r.major, p)

/-- Key by key, the first fitting row is the one of the key's class, and holds its decision. -/
theorem rowOf_keyWord (m : MajorOperation) (f3 : Funct3) (z : Bool) :
    (rowOf (keyWord m f3 z)).map (fun r => (r.mnemonic, r.major)) =
      some ((classify m (keyWord m f3 z)).mnemonic, m) ∧
    (rowOf (keyWord m f3 z)).map rowDecision = some (decode .absentAsZero (keyWord m f3 z)).decision := by
  cases m <;> revert f3 z <;> decide

/-- So it is for every word with a known opcode. -/
theorem rowOf_of_opcode {w : Word} {m : MajorOperation} (ho : opcodeField w = opcodeOf m) :
    ∃ r, rowOf w = some r ∧ r.mnemonic = (classify m w).mnemonic ∧ r.major = m ∧
      rowDecision r = (decode .absentAsZero w).decision := by
  have hk := sameKey_keyWord ho
  obtain ⟨hname, hdec⟩ := rowOf_keyWord m (funct3Field w) (funct7Field w == 0#7)
  rw [← hk.rowOf_eq, ← hk.mnemonic_eq] at hname
  rw [← hk.rowOf_eq, ← hk.decision_eq] at hdec
  obtain ⟨r, hr, he⟩ := Option.map_eq_some_iff.1 hname
  rw [hr] at hdec
  exact ⟨r, hr, (Prod.mk.inj he).1, (Prod.mk.inj he).2, Option.some.inj hdec⟩

theorem rowOf_of_unknown {w : Word} (h : majorOf defaultTables (opcodeField w) = none) : rowOf w = none :=
  List.find?_eq_none.2 fun r hr hfit => (majorOf_eq_none_iff _ _).1 h r.major (opcode_of_fits hr hfit).symm

/-- Settles O4: a word with a class fits the class's row first, and a word without one fits no row. -/
theorem classIsTheFirstFittingRow : Obligations.ClassIsTheFirstFittingRow := by
  intro w
  rcases decodeWord_cases w with ⟨m, ho, hd⟩ | ⟨hn, hd⟩
  · obtain ⟨r, hr, hname, -⟩ := rowOf_of_opcode ho
    rw [hr, hd, Option.map_some, hname]
  · rw [rowOf_of_unknown hn, hd, Option.map_none]

/-- Settles O5: the row's decision is the word's, and a word without one fails by rule R100. -/
theorem firstFittingRowHoldsTheDecodeResult : Obligations.FirstFittingRowHoldsTheDecodeResult := by
  intro w
  rcases decodeWord_cases w with ⟨m, ho, -⟩ | ⟨hn, -⟩
  · obtain ⟨r, hr, -, rfl, hdec⟩ := rowOf_of_opcode ho
    simp only [hr]
    cases hres : r.result with
    | some p => simp only [← hdec, rowDecision, hres, Option.map_some]
    | none =>
      refine failsAtStep9_of_absent ho (not_not.1 fun habs => ?_)
      obtain ⟨i, hi⟩ := (absentMicroOpIsUnsupported .absentAsZero w r.major ho).2 habs
      rw [rowDecision, hres, hi] at hdec
      cases hdec
  · rw [rowOf_of_unknown hn]
    exact decodeWith_of_unknown hn

end Sys2Proof.Machine
end

section
/-!
PROOF. The decode operation (40_decode_operation.md): class by class it is the nine steps (rule R130); its two errors
(rules R131, R143) and how many combinations decode (rule R144); its execution unit (rule R138), its micro-op (rules R139,
R140) and the setting `OPIMM_F7_KEY` (rule R141).
-/

namespace Sys2Proof.Machine

/-! ### The machine and the nine steps -/

/-- Settles O36: a word with a class is its class's word again, and a word without one has an opcode `decode` does not
know. -/
theorem everyClassAgreesWithDecode : Obligations.EveryClassAgreesWithDecode := by
  refine fun w s => ⟨fun i h => exec_of_decodeWord h s, fun r h => ⟨?_, rejectWord_of_decodeWord h s⟩⟩
  rcases decodeWord_cases w with ⟨m, -, hd⟩ | ⟨-, hd⟩ <;> cases hd.symm.trans h
  rfl

/-- Settles O44: a step on a waiting word delivers a result, errors included, and any other step is an advance. -/
theorem everyStepAnswersANextState : Obligations.EveryStepAnswersANextState := by
  intro s
  cases hw : s.words with
  | nil => exact ⟨_, step_of_no_words hw⟩
  | cons w ws => exact ⟨_, step_of_words hw⟩

/-! ### Step 1 -/

section decodeBits
variable {T : Tables} {key : OpimmF7Key} {bits : List Bool}

theorem decodeBits_of_length_ne (h : bits.length ≠ 32) : decodeBits T key bits = .err (.invalidInstruction bits.length) := by
  simp [decodeBits, wordOfBits, h]

theorem decodeBits_of_length (h : bits.length = 32) : ∃ w, decodeBits T key bits = decodeWith T key w := by
  obtain ⟨w, hw⟩ := Option.isSome_iff_exists.1 ((wordOfBits_isSome bits).2 h)
  exact ⟨w, by rw [decodeBits, hw]⟩

end decodeBits

/-- Steps 2 to 9 yield an Instruction or raise `UnsupportedOpcodeError` (rules R142, R252, R253). -/
theorem decodeWith_cases (T : Tables) (key : OpimmF7Key) (w : Word) :
    (∃ i, decodeWith T key w = .ok i) ∨ (∃ cause, decodeWith T key w = .err (.unsupportedOpcode cause)) := by
  simp only [decodeWith]
  split
  · split
    · exact .inr ⟨_, rfl⟩
    · exact .inl ⟨_, rfl⟩
  · exact .inr ⟨_, rfl⟩

theorem decodeWith_ne_invalidInstruction (T : Tables) (key : OpimmF7Key) (w : Word) (n : Nat) :
    decodeWith T key w ≠ .err (.invalidInstruction n) := by
  rcases decodeWith_cases T key w with ⟨i, h⟩ | ⟨cause, h⟩ <;> simp [h]

/-- Settles O8: step 1 fails on any other length, and after it no step raises the error. -/
theorem onlyWrongLengthIsInvalidInstruction : Obligations.OnlyWrongLengthIsInvalidInstruction := by
  refine fun T key bits => ⟨decodeBits_of_length_ne, fun n h h32 => ?_⟩
  obtain ⟨w, hw⟩ := decodeBits_of_length (T := T) (key := key) h32
  exact decodeWith_ne_invalidInstruction T key w n (hw.symm.trans h)

/-! ### The execution unit -/

/-- Settles O16: a successful decode reports the unit of its major operation. -/
theorem executionUnitByMajorAlone : Obligations.ExecutionUnitByMajorAlone := by
  intro T key w i h
  obtain ⟨m, u, rfl⟩ := record_of_decodeWith_ok h
  change (m ∈ _ → executionUnit m = _) ∧ (m ∈ _ → executionUnit m = _) ∧ (m ∈ _ → executionUnit m = _)
  cases m <;> decide

/-! ### The micro-op -/

/-- Settles O17: with funct3 the lookup is the function; without it the one row of the major operation is left. -/
theorem printedMicroOpTableIsTheFunction : Obligations.PrintedMicroOpTableIsTheFunction := by
  refine fun m f3 k => ⟨lookupMicroOp_eq_rule139 m f3 k, fun hm => ?_⟩
  cases m with
  | auipc | lui | jal => rfl
  | load | store | branch | jalr | opImm | op | system | miscMem => simp at hm

section key
variable {key key' : OpimmF7Key} {w : Word} {m : MajorOperation}

/-- A word of format I decodes to its own fields, with the micro-op of rule R139's function. -/
theorem decodesI_of_rule139 {u : MicroOp} (ho : opcodeField w = opcodeOf m) (hf : formatOf m = .I)
    (hu : rule139 m (funct3Field w) (funct7Key key none w) = some u) :
    DecodesI key w (opcodeOf m) m (executionUnit m) u := by
  have h := decode_of_rule139 (key := key) ho (by rw [hf]; exact hu)
  rw [DecodesI, h, hf, recordAs, ho]
  rfl

/-- The setting is seen through rule R139's function alone. -/
theorem decode_eq_of_rule139_eq
    (h : ∀ m, opcodeField w = opcodeOf m →
      rule139 m (funct3Field w) (funct7Key key (funct7Of (formatOf m) w) w) =
        rule139 m (funct3Field w) (funct7Key key' (funct7Of (formatOf m) w) w)) :
    decode key w = decode key' w := by
  rcases decodeWord_cases w with ⟨m, ho, -⟩ | ⟨hn, -⟩
  · have hl := lookupMicroOp_of_format m w
    have he := h m ho
    cases hu : rule139 m (funct3Field w) (funct7Key key (funct7Of (formatOf m) w) w) with
    | some u => rw [decode_of_rule139 ho hu, decode_of_rule139 ho (he.symm.trans hu)]
    | none =>
      rw [decode, decode, decodeWith_of_noEntry (majorOf_default ho) rfl ((hl _).trans hu),
        decodeWith_of_noEntry (majorOf_default ho) rfl ((hl _).trans (he.symm.trans hu))]
  · rw [decode, decode, decodeWith_of_unknown hn, decodeWith_of_unknown hn]

/-- Only OP-IMM has rows that consult funct7 and a format without it (rules R139, R141). -/
theorem decode_key_irrelevant (h : ¬ (opcodeField w = opcodeOf .opImm ∧ (funct3Field w = 0 ∨ funct3Field w = 5))) :
    decode key w = decode key' w := by
  refine decode_eq_of_rule139_eq fun m ho => ?_
  cases m with
  | opImm => exact rule139_congr .opImm fun h3 => absurd ⟨ho, h3⟩ h
  | load | store | branch | jalr | jal | op | auipc | lui | system | miscMem => rfl

end key

/-- Settles O18: OP-IMM with funct3 0 and 5 takes the column of the selector, and no other word asks for it. -/
theorem opimmKeySelectsTheColumn : Obligations.OpimmKeySelectsTheColumn := by
  refine ⟨fun w f => ⟨rfl, rfl, rfl, rfl⟩, fun w =>
    ⟨fun (ho : opcodeField w = opcodeOf .opImm) (h3 : funct3Field w = 0) => ?_,
    fun (ho : opcodeField w = opcodeOf .opImm) (h3 : funct3Field w = 5) => ?_,
    decode_key_irrelevant⟩⟩
  · have hu (k : Funct7) : rule139 .opImm (funct3Field w) k = some (if k = 0 then 0 else 1) := by
      rw [h3]; exact (apply_ite some _ _ _).symm
    exact ⟨decodesI_of_rule139 ho rfl (hu 0), decodesI_of_rule139 ho rfl (hu (funct7Field w))⟩
  · have hu (k : Funct7) : rule139 .opImm (funct3Field w) k = some (if k = 0 then 14 else 13) := by
      rw [h3]; exact (apply_ite some _ _ _).symm
    exact ⟨decodesI_of_rule139 ho rfl (hu 0), decodesI_of_rule139 ho rfl (hu (funct7Field w))⟩

/-! ### How many combinations decode -/

/-- Whether the words of an opcode and a funct3 decode: a known opcode, and a funct3 that is not absent from the micro-op
table (rules R99, R100). -/
def decodable (o : Opcode) (f3 : Funct3) : Bool := (majorOf defaultTables o).any fun m => f3 ∉ absentFunct3 m

theorem decision_isSome (key : OpimmF7Key) (w : Word) :
    (decode key w).decision.isSome = decodable (opcodeField w) (funct3Field w) := by
  rcases decodeWord_cases w with ⟨m, ho, -⟩ | ⟨hn, -⟩
  · rw [decision_of_opcode ho, Option.isSome_map, decodable, majorOf_default ho, Option.any_some, Bool.eq_iff_iff,
      decide_eq_true_iff, Option.isSome_iff_ne_none, Ne, rule139_eq_none_iff]
  · rw [decode, decodeWith_of_unknown hn, decodable, hn]
    rfl

/-- What is added above bit 6 does not reach the opcode. -/
theorem opcodeField_ofNat_sum (o f z : Nat) :
    opcodeField (BitVec.ofNat 32 (o + 4096 * f + 33554432 * z)) = BitVec.ofNat 7 o := by
  apply BitVec.eq_of_toNat_eq
  simp [opcodeField]
  omega

/-- What is added above bit 14 or stays below bit 12 does not reach funct3. -/
theorem funct3Field_ofNat_sum {o : Nat} (f z : Nat) (ho : o < 4096) :
    funct3Field (BitVec.ofNat 32 (o + 4096 * f + 33554432 * z)) = BitVec.ofNat 3 f := by
  apply BitVec.eq_of_toNat_eq
  simp [funct3Field, Nat.shiftRight_eq_div_pow]
  omega

/-- A known opcode has 16 combinations of funct3 and funct7 zero or not, less two for every absent funct3. -/
theorem count_decodable_of_opcode (o : Opcode) :
    ((List.range 8).map fun f => ([0, 1] : List Nat).countP fun _ => decodable o (BitVec.ofNat 3 f)).sum =
      (majorOf defaultTables o).elim 0 fun m => 16 - 2 * (absentFunct3 m).length := by
  unfold decodable
  cases majorOf defaultTables o with
  | none => rfl
  | some m => cases m <;> rfl

/-- Settles O11: counted opcode by opcode. -/
theorem countOfDecodableCombinations : Obligations.CountOfDecodableCombinations := by
  have hcount : ∀ o ∈ List.range 128,
      ((List.range 8).map fun f => ([0, 1] : List Nat).countP fun z =>
        (decode .absentAsZero (BitVec.ofNat 32 (o + 4096 * f + 33554432 * z))).decision.isSome).sum =
      (majorOf defaultTables (BitVec.ofNat 7 o)).elim 0 fun m => 16 - 2 * (absentFunct3 m).length := by
    intro o ho
    have hlt : o < 4096 := (List.mem_range.1 ho).trans (by decide)
    simp only [decision_isSome, opcodeField_ofNat_sum, funct3Field_ofNat_sum _ _ hlt]
    exact count_decodable_of_opcode _
  rw [Obligations.CountOfDecodableCombinations, List.map_congr_left hcount]
  decide +kernel

end Sys2Proof.Machine
end

section
/-!
PROOF. The results of LOAD and STORE, of MISC-MEM, JALR and SYSTEM, and of the funct3 values without an entry
(41_load_store_miscmem.md; R182, R184, R236): format by format, a word decodes to its own fields with the micro-op of
rule R139's function, of which these major operations leave the funct7 selector unread.
-/

namespace Sys2Proof.Machine

section results
variable {key : OpimmF7Key} {w : Word} {m : MajorOperation} {f3 : Funct3} {u : MicroOp}

/-- A word of format S decodes to its own fields, with the micro-op of rule R139's function. -/
theorem decodesS_of_rule139 (ho : opcodeField w = opcodeOf m) (hf : formatOf m = .S)
    (hu : rule139 m (funct3Field w) (funct7Key key none w) = some u) :
    DecodesS key w (opcodeOf m) m (executionUnit m) u := by
  have h := decode_of_rule139 (key := key) ho (by rw [hf]; exact hu)
  rw [DecodesS, h, hf, recordAs, ho]
  rfl

/-- Where funct3 alone selects the micro-op, neither funct7 nor the setting `OPIMM_F7_KEY` is seen in format I. -/
theorem decodesI_of_funct3 (ho : opcodeField w = opcodeOf m) (h3 : funct3Field w = f3) (hf : formatOf m = .I)
    (hu : ∀ k, rule139 m f3 k = some u) : DecodesI key w (opcodeOf m) m (executionUnit m) u :=
  decodesI_of_rule139 ho hf (h3 ▸ hu _)

/-- Where funct3 alone selects the micro-op, neither funct7 nor the setting `OPIMM_F7_KEY` is seen in format S. -/
theorem decodesS_of_funct3 (ho : opcodeField w = opcodeOf m) (h3 : funct3Field w = f3) (hf : formatOf m = .S)
    (hu : ∀ k, rule139 m f3 k = some u) : DecodesS key w (opcodeOf m) m (executionUnit m) u :=
  decodesS_of_rule139 ho hf (h3 ▸ hu _)

/-- LOAD is of format I and its micro-op is selected by funct3 alone (rules R160 to R164). -/
theorem decodesI_load (ho : opcodeField w = opcodeOf .load) (h3 : funct3Field w = f3)
    (hu : rule139 .load f3 0 = some u) : DecodesI key w 0b0000011 .load .LSU u :=
  decodesI_of_funct3 ho h3 rfl fun _ => hu

/-- STORE is of format S and its micro-op is selected by funct3 alone (rules R166 to R168). -/
theorem decodesS_store (ho : opcodeField w = opcodeOf .store) (h3 : funct3Field w = f3)
    (hu : rule139 .store f3 0 = some u) : DecodesS key w 0b0100011 .store .LSU u :=
  decodesS_of_funct3 ho h3 rfl fun _ => hu

/-- MISC-MEM decodes alike with every funct3 (rule R170). -/
theorem decodesI_miscMem (ho : opcodeField w = opcodeOf .miscMem) : DecodesI key w 0b0001111 .miscMem .INT 0 :=
  decodesI_of_rule139 ho rfl rfl

/-- JALR decodes alike with every funct3 (rule R182). -/
theorem decodesI_jalr (ho : opcodeField w = opcodeOf .jalr) : DecodesI key w 0b1100111 .jalr .BRU 0 :=
  decodesI_of_rule139 ho rfl rfl

/-- SYSTEM decodes alike with every funct3 (rule R184). -/
theorem decodesI_system (ho : opcodeField w = opcodeOf .system) : DecodesI key w 0b1110011 .system .INT 9 :=
  decodesI_of_rule139 ho rfl rfl

end results

/-- Settles O20: each clause, and each example, is LOAD with one funct3 of rule R139's function. -/
theorem loadClassResults : Obligations.LoadClassResults := by
  constructor
  · intro key w ho
    exact ⟨fun h3 => decodesI_load ho h3 rfl, fun h3 => decodesI_load ho h3 rfl, fun h3 => decodesI_load ho h3 rfl,
      fun h3 => decodesI_load ho h3 rfl, fun h3 => decodesI_load ho h3 rfl⟩
  · intro key
    exact ⟨decodesI_load rfl rfl rfl, decodesI_load rfl rfl rfl, decodesI_load rfl rfl rfl, decodesI_load rfl rfl rfl,
      decodesI_load rfl rfl rfl⟩

/-- Settles O21: each clause, and each example, is STORE with one funct3 of rule R139's function. -/
theorem storeClassResults : Obligations.StoreClassResults := by
  constructor
  · intro key w ho
    exact ⟨fun h3 => decodesS_store ho h3 rfl, fun h3 => decodesS_store ho h3 rfl,
      fun h3 => decodesS_store ho h3 rfl⟩
  · intro key
    exact ⟨decodesS_store rfl rfl rfl, decodesS_store rfl rfl rfl, decodesS_store rfl rfl rfl,
      decodesS_store rfl rfl rfl, decodesS_store rfl rfl rfl⟩

/-- Settles O22: rule R139's function is constant on the three opcodes, so the opcode alone selects the micro-op. -/
theorem wholeOpcodeClassResults : Obligations.WholeOpcodeClassResults := by
  constructor
  · intro key w
    exact ⟨decodesI_miscMem, decodesI_jalr, decodesI_system⟩
  · intro key
    exact ⟨decodesI_miscMem rfl, decodesI_miscMem rfl, decodesI_miscMem rfl, decodesI_jalr rfl, decodesI_jalr rfl,
      decodesI_jalr rfl, decodesI_system rfl, decodesI_system rfl, decodesI_system rfl, decodesI_system rfl,
      decodesI_system rfl⟩

/-- Settles O27: the unlisted funct3 values are those for which rule R139's function is not defined. -/
theorem errorClassResults : Obligations.ErrorClassResults := by
  have load {key : OpimmF7Key} {w : Word} := failsAtStep9_of_absent (key := key) (w := w) (m := .load)
  have store {key : OpimmF7Key} {w : Word} := failsAtStep9_of_absent (key := key) (w := w) (m := .store)
  have branch {key : OpimmF7Key} {w : Word} := failsAtStep9_of_absent (key := key) (w := w) (m := .branch)
  constructor
  · intro key w
    exact ⟨load, store, branch⟩
  · intro key
    exact ⟨load rfl (by decide), load rfl (by decide), load rfl (by decide), store rfl (by decide),
      store rfl (by decide), store rfl (by decide), branch rfl (by decide), branch rfl (by decide)⟩

end Sys2Proof.Machine
end

section
/-!
PROOF. The results of AUIPC, LUI and JAL (42_upper_jump_system.md, R180, R181, R183): formats U and J report no funct
field, and rule R139's function is constant on the three opcodes, so the opcode alone selects the micro-op.
-/

namespace Sys2Proof.Machine

section results
variable {key : OpimmF7Key} {w : Word} {m : MajorOperation} {u : MicroOp}

/-- A word of format U decodes to its own fields, with the micro-op of rule R139's function. The immediate fills the
word, so extending it changes nothing (rule R93). -/
theorem decodesU_of_rule139 (ho : opcodeField w = opcodeOf m) (hf : formatOf m = .U)
    (hu : rule139 m (funct3Field w) (funct7Key key none w) = some u) :
    DecodesU key w (opcodeOf m) m (executionUnit m) u := by
  have h := decode_of_rule139 (key := key) ho (by rw [hf]; exact hu)
  have himm : immediateOf .U w = some (immFieldU w) := congrArg some (BitVec.signExtend_eq _)
  rw [DecodesU, h, hf, recordAs, ho, himm]
  rfl

/-- A word of format J decodes to its own fields, with the micro-op of rule R139's function. -/
theorem decodesJ_of_rule139 (ho : opcodeField w = opcodeOf m) (hf : formatOf m = .J)
    (hu : rule139 m (funct3Field w) (funct7Key key none w) = some u) :
    DecodesJ key w (opcodeOf m) m (executionUnit m) u := by
  have h := decode_of_rule139 (key := key) ho (by rw [hf]; exact hu)
  rw [DecodesJ, h, hf, recordAs, ho]
  rfl

/-- AUIPC is of format U and has one micro-op (rule R180). -/
theorem decodesU_auipc (ho : opcodeField w = opcodeOf .auipc) : DecodesU key w 0b0010111 .auipc .INT 0 :=
  decodesU_of_rule139 ho rfl rfl

/-- LUI is of format U and has one micro-op (rule R181). -/
theorem decodesU_lui (ho : opcodeField w = opcodeOf .lui) : DecodesU key w 0b0110111 .lui .INT 9 :=
  decodesU_of_rule139 ho rfl rfl

/-- JAL is of format J and has one micro-op (rule R183). -/
theorem decodesJ_jal (ho : opcodeField w = opcodeOf .jal) : DecodesJ key w 0b1101111 .jal .BRU 8 :=
  decodesJ_of_rule139 ho rfl rfl

end results

/-- Settles O23: each clause is one of the three classes, and each example is one of its words. -/
theorem upperAndJumpClassResults : Obligations.UpperAndJumpClassResults := by
  constructor
  · intro key w
    exact ⟨decodesU_auipc, decodesU_lui, decodesJ_jal⟩
  · intro key
    exact ⟨decodesU_auipc rfl, decodesU_auipc rfl, decodesU_lui rfl, decodesU_lui rfl, decodesU_lui rfl,
      decodesJ_jal rfl, decodesJ_jal rfl, decodesJ_jal rfl, decodesJ_jal rfl, decodesJ_jal rfl, decodesJ_jal rfl⟩

end Sys2Proof.Machine
end

section
/-!
PROOF. The results of OP-IMM and OP (43_opimm_op.md, R200 to R217): funct3 selects the entry of rule R139's function and
only the entries of funct3 0 and 5 look at the funct7 selector, which is the field itself in format R and, in format I,
what the setting `OPIMM_F7_KEY` puts in its place (rule R141).
-/

namespace Sys2Proof.Machine

section results
variable {key : OpimmF7Key} {w : Word} {m : MajorOperation} {f3 : Funct3} {u : MicroOp}

/-- A word of format R decodes to its own fields, with the micro-op of rule R139's function at its own funct7. -/
theorem decodesR_of_rule139 (ho : opcodeField w = opcodeOf m) (hf : formatOf m = .R)
    (hu : rule139 m (funct3Field w) (funct7Field w) = some u) :
    DecodesR key w (opcodeOf m) m (executionUnit m) u := by
  have h := decode_of_rule139 (key := key) ho (by rw [hf]; exact hu)
  rw [DecodesR, h, hf, recordAs, ho]
  rfl

/-- OP-IMM is of format I and its micro-op is selected by funct3 and the setting's funct7 (rules R200 to R207). -/
theorem decodesI_opImm (ho : opcodeField w = opcodeOf .opImm) (h3 : funct3Field w = f3)
    (hu : rule139 .opImm f3 (funct7Key key none w) = some u) : DecodesI key w 0b0010011 .opImm .INT u :=
  decodesI_of_rule139 ho rfl (h3 ▸ hu)

/-- OP is of format R and its micro-op is selected by funct3 and funct7, whatever the setting (rules R208 to R217). -/
theorem decodesR_op (ho : opcodeField w = opcodeOf .op) (h3 : funct3Field w = f3)
    (hu : rule139 .op f3 (funct7Field w) = some u) : DecodesR key w 0b0110011 .op .INT u :=
  decodesR_of_rule139 ho rfl (h3 ▸ hu)

end results

/-- Settles O24: each clause, and each example, is OP-IMM with one funct3 of rule R139's function; the default key puts 0
for funct7 where funct3 is 0 or 5, and the alternative key puts the non-zero bits 31 to 25 of the last example. -/
theorem opImmClassResults : Obligations.OpImmClassResults := by
  refine ⟨fun key w ho => ?_, decodesI_opImm rfl rfl rfl, decodesI_opImm rfl rfl rfl, decodesI_opImm rfl rfl rfl,
    fun key => ?_, decodesI_opImm rfl rfl rfl, decodesI_opImm rfl rfl rfl, decodesI_opImm rfl rfl rfl⟩
  · exact ⟨fun h3 => decodesI_opImm ho h3 rfl, fun h3 => decodesI_opImm ho h3 rfl, fun h3 => decodesI_opImm ho h3 rfl,
      fun h3 => decodesI_opImm ho h3 rfl, fun h3 => decodesI_opImm ho h3 rfl, fun h3 => decodesI_opImm ho h3 rfl,
      fun h3 => decodesI_opImm ho h3 rfl, fun h3 => decodesI_opImm ho h3 rfl⟩
  · exact ⟨decodesI_opImm rfl rfl rfl, decodesI_opImm rfl rfl rfl, decodesI_opImm rfl rfl rfl,
      decodesI_opImm rfl rfl rfl, decodesI_opImm rfl rfl rfl, decodesI_opImm rfl rfl rfl, decodesI_opImm rfl rfl rfl⟩

/-- Settles O25: each clause, and each example, is OP with one funct3 of rule R139's function; where funct3 is 0 or 5,
whether funct7 is zero chooses between the two micro-ops. -/
theorem opClassResults : Obligations.OpClassResults := by
  refine ⟨fun key w ho => ?_, fun key => ?_, fun key => ?_⟩
  · exact ⟨fun h3 h7 => decodesR_op ho h3 (if_pos h7), fun h3 h7 => decodesR_op ho h3 (if_neg h7),
      fun h3 => decodesR_op ho h3 rfl, fun h3 => decodesR_op ho h3 rfl, fun h3 => decodesR_op ho h3 rfl,
      fun h3 => decodesR_op ho h3 rfl,
      fun h3 h7 => decodesR_op ho h3 (if_pos h7), fun h3 h7 => decodesR_op ho h3 (if_neg h7),
      fun h3 => decodesR_op ho h3 rfl, fun h3 => decodesR_op ho h3 rfl⟩
  · exact ⟨decodesR_op rfl rfl rfl, decodesR_op rfl rfl rfl, decodesR_op rfl rfl rfl, decodesR_op rfl rfl rfl,
      decodesR_op rfl rfl rfl, decodesR_op rfl rfl rfl, decodesR_op rfl rfl rfl, decodesR_op rfl rfl rfl,
      decodesR_op rfl rfl rfl⟩
  · exact ⟨decodesR_op rfl rfl rfl, decodesR_op rfl rfl rfl, decodesR_op rfl rfl rfl, decodesR_op rfl rfl rfl,
      decodesR_op rfl rfl rfl, decodesR_op rfl rfl rfl⟩

end Sys2Proof.Machine
end

section
/-!
PROOF. The results of BRANCH (44_branch.md, R230 to R235): format B reports no funct7 and the BRANCH entries of rule
R139's function do not consult it, so funct3 alone selects the micro-op, under either setting.
-/

namespace Sys2Proof.Machine

section results
variable {key : OpimmF7Key} {w : Word} {m : MajorOperation} {f3 : Funct3} {u : MicroOp}

/-- A word of format B decodes to its own fields, with the micro-op of rule R139's function. -/
theorem decodesB_of_rule139 (ho : opcodeField w = opcodeOf m) (hf : formatOf m = .B)
    (hu : rule139 m (funct3Field w) (funct7Key key none w) = some u) :
    DecodesB key w (opcodeOf m) m (executionUnit m) u := by
  have h := decode_of_rule139 (key := key) ho (by rw [hf]; exact hu)
  rw [DecodesB, h, hf, recordAs, ho]
  rfl

/-- BRANCH is of format B and its micro-op is selected by funct3 alone (rules R230 to R235). -/
theorem decodesB_branch (ho : opcodeField w = opcodeOf .branch) (h3 : funct3Field w = f3)
    (hu : rule139 .branch f3 0 = some u) : DecodesB key w 0b1100011 .branch .BRU u :=
  decodesB_of_rule139 ho rfl (h3 ▸ hu)

end results

/-- Settles O26: each clause, and each example, is BRANCH with one funct3 of rule R139's function. -/
theorem branchClassResults : Obligations.BranchClassResults := by
  constructor
  · intro key w ho
    exact ⟨fun h3 => decodesB_branch ho h3 rfl, fun h3 => decodesB_branch ho h3 rfl,
      fun h3 => decodesB_branch ho h3 rfl, fun h3 => decodesB_branch ho h3 rfl,
      fun h3 => decodesB_branch ho h3 rfl, fun h3 => decodesB_branch ho h3 rfl⟩
  · intro key
    exact ⟨decodesB_branch rfl rfl rfl, decodesB_branch rfl rfl rfl, decodesB_branch rfl rfl rfl,
      decodesB_branch rfl rfl rfl, decodesB_branch rfl rfl rfl, decodesB_branch rfl rfl rfl⟩

end Sys2Proof.Machine
end

section
/-!
PROOF. The errors that end a load (60_exceptions.md sections 2 and 3): the first one is the load's result whatever lines
follow (rule R258), and a decoder error among them is `decode`'s own on the word it names (rules R251, R259, R266).
-/

namespace Sys2Proof.Machine

/-- A load that fails does so at its first line, or after a first line that loads. -/
theorem loadFrom_cons_err {cfg : Config} {l : Loader} {n : Nat} {line : Line} {ls : List Line} {e : LoadError}
    (h : loadFrom cfg l n (line :: ls) = .err e) :
    loadLine cfg l (n + 1) line = .error e ∨
    ∃ l', loadLine cfg l (n + 1) line = .ok l' ∧ loadFrom cfg l' (n + 1) ls = .err e := by
  rw [loadFrom] at h
  split at h
  · next l' hline => exact .inr ⟨l', hline, h⟩
  · next hline => cases h; exact .inl hline

theorem loadFrom_append_of_err {cfg : Config} {l : Loader} {n : Nat} {lines : List Line} {e : LoadError}
    (h : loadFrom cfg l n lines = .err e) (more : List Line) : loadFrom cfg l n (lines ++ more) = .err e := by
  induction lines generalizing l n with
  | nil => cases h
  | cons line ls ih =>
    rcases loadFrom_cons_err h with hline | ⟨l', hline, hrest⟩
    · simp [loadFrom, hline]
    · simp [loadFrom, hline, ih hrest]

/-- Settles O58: the loop ends at the line that fails. -/
theorem laterLinesAreNotExamined : Obligations.LaterLinesAreNotExamined :=
  fun _ _ more _ h => loadFrom_append_of_err h more

/-! ### A decoder error of a load -/

section decoder
variable {cfg : Config} {n : Nat} {e : DecodeError} {a : LoadAddress} {i o : Nat} {w : Word}

theorem scanData_ne_decoder_error {current : Option LoadAddress} {cs : List Char} :
    scanData current n cs ≠ .bad (.decoder e a i o w) := by
  simp only [scanData]
  split
  · simp
  · split
    · simp
    · split <;> simp

theorem scanHeader_ne_decoder_error {afterAt : List Char} : scanHeader n afterAt ≠ .bad (.decoder e a i o w) := by
  unfold scanHeader
  split <;> simp

/-- Reading a line's text decodes no word, so what it raises is no decoder error (rules R256, R257). -/
theorem scanLine_ne_decoder_error {current : Option LoadAddress} {line : Line} :
    scanLine cfg current n line ≠ .bad (.decoder e a i o w) := by
  unfold scanLine
  split
  · split
    · simp
    · exact scanData_ne_decoder_error
  · split
    · exact scanHeader_ne_decoder_error
    · exact scanData_ne_decoder_error

theorem loadWord_decoder_error {l : Loader} {v : Word} (h : loadWord cfg l n v = .error (.decoder e a i o w)) :
    o = byteOffset cfg i ∧ decode cfg.opimmF7Key w = .err e := by
  unfold loadWord at h
  split at h
  · cases h
  · split at h
    · cases h
    · next hd => cases h; exact ⟨rfl, hd⟩

theorem loadWords_decoder_error {l : Loader} {ws : List Word}
    (h : loadWords cfg l n ws = .error (.decoder e a i o w)) :
    o = byteOffset cfg i ∧ decode cfg.opimmF7Key w = .err e := by
  induction ws generalizing l with
  | nil => cases h
  | cons v ws ih =>
    rw [loadWords] at h
    split at h
    · exact ih h
    · next hv => cases h; exact loadWord_decoder_error hv

theorem loadLine_decoder_error {l : Loader} {line : Line}
    (h : loadLine cfg l n line = .error (.decoder e a i o w)) :
    o = byteOffset cfg i ∧ decode cfg.opimmF7Key w = .err e := by
  unfold loadLine at h
  split at h
  · cases h
  · cases h
  · exact loadWords_decoder_error h
  · next hs => cases h; exact absurd hs scanLine_ne_decoder_error

/-- A decoder error that ends a load is `decode`'s on the word it names, and its byte offset is that of its index (rule
R259). -/
theorem loadFrom_decoder_error {l : Loader} {lines : List Line}
    (h : loadFrom cfg l n lines = .err (.decoder e a i o w)) :
    o = byteOffset cfg i ∧ decode cfg.opimmF7Key w = .err e := by
  induction lines generalizing l n with
  | nil => cases h
  | cons line ls ih =>
    rcases loadFrom_cons_err h with hline | ⟨l', -, hrest⟩
    · exact loadLine_decoder_error hline
    · exact ih hrest

end decoder

/-- Settles O56: the error would be `decode`'s on a word of 32 bits, and steps 2 to 9 never raise it. -/
theorem loadNeverReportsWrongLength : Obligations.LoadNeverReportsWrongLength := by
  intro cfg lines n a i o w h
  obtain ⟨-, hd⟩ := loadFrom_decoder_error h
  exact decodeWith_ne_invalidInstruction defaultTables cfg.opimmF7Key w n hd

/-- Every error that ends a load makes the command line fail with its kind (rule R266). -/
theorem commandLineEnd_err (e : LoadError) : ∃ a o, commandLineEnd (.err e) = .failed e.kind a o := by
  cases e with
  | fileFormat n cause => exact ⟨none, none, rfl⟩
  | addressParse n payload => exact ⟨none, none, rfl⟩
  | decoder e a i o w => exact ⟨some a, some o, rfl⟩

/-- Settles O59: the end is read off the result, and a decoder error is `decode`'s. -/
theorem commandLineEndFollowsTheLoad : Obligations.CommandLineEndFollowsTheLoad := by
  refine fun cfg lines => ⟨fun image diags h => ?_, fun e h => ?_, fun e a i o w h => ⟨?_, loadFrom_decoder_error h⟩⟩
  · rw [h, commandLineEnd]
  · rw [h]
    exact commandLineEnd_err e
  · rw [h, commandLineEnd]

end Sys2Proof.Machine
end

section
/-!
PROOF. Reset and hazards (70_reset_and_hazards.md): a load starts in the loader's initial state (rule R282), and a
sequence of `decode` calls is answered call by call, each run continued by the run of the calls left (rule R285).
-/

namespace Sys2Proof.Machine

theorem step_takes_load {s : State} {lines : List Line} {cs : List Call} (hl : s.loading = false) (hw : s.words = [])
    (hc : s.calls = .load lines :: cs) : step s = .next (beginLoad lines { s with calls := cs }) := by
  simp [step_of_no_words hw, advance, hl, takeCall, hc]

/-- Settles O48: the step that takes the call is `beginLoad`. -/
theorem loadStartsFromTheInitialState : Obligations.LoadStartsFromTheInitialState :=
  fun _ _ _ hl hw hc => step_takes_load hl hw hc

/-- A run that answers a next state goes on as the run from that state. -/
theorem run_add_of_run {s t : State} {m : Nat} (n : Nat)
    (h : (Host.Core.run Sys2Proof.core m s : Host.Outcome State Fault Refusal) = .next t) :
    (Host.Core.run Sys2Proof.core (m + n) s : Host.Outcome State Fault Refusal) =
      (Host.Core.run Sys2Proof.core n t : Host.Outcome State Fault Refusal) := by
  induction m generalizing s with
  | zero => cases h; rw [Nat.zero_add]
  | succ m ih =>
    obtain ⟨s', hstep⟩ := everyStepAnswersANextState s
    rw [run_succ_of_step m hstep] at h
    rw [Nat.succ_add, run_succ_of_step (m + n) hstep, ih h]

/-- Settles O40, by induction on the calls: the first is answered by O39, which leaves no load running and no word
waiting for the others. -/
theorem decodeCallsAreIndependent : Obligations.DecodeCallsAreIndependent := by
  intro s inputs hl hw hc
  induction inputs generalizing s with
  | nil =>
    rw [List.map_nil] at hc
    exact ⟨0, Nat.le_refl _, by rw [List.map_nil, List.append_nil, ← hc]; rfl⟩
  | cons bits inputs ih =>
    obtain ⟨m, hm, hfirst⟩ := decodeCallIsAnswered.2 s bits (inputs.map Call.decode) hl hw hc
    obtain ⟨n, hn, hrest⟩ := ih
      { s with calls := inputs.map Call.decode
               replies := s.replies ++ [.decoded (decodeBits defaultTables s.cfg.opimmF7Key bits)] } hl hw rfl
    refine ⟨m + n, by rw [List.length_cons]; omega, ?_⟩
    simp [run_add_of_run n hfirst, hrest]

end Sys2Proof.Machine
end

section
/-!
PROOF. The spec's own example words (95_test_vectors.md Part 2, V3 to V7): a word written from its format's layout is the
encoding of its instruction, so the round trip gives its class; a word of an unknown opcode has none.
-/

namespace Sys2Proof.Machine

theorem decodeWord_of_encode_eq {i : Instr} {w : Word} (h : i.wellFormed = true) (hw : encode i = w) :
    decodeWord w = .ok i := hw ▸ decodeWord_encode h

theorem decodeWord_of_unknown {w : Word} (h : ∀ m, opcodeOf m ≠ opcodeField w) :
    decodeWord w = .error (.unknownOpcode (opcodeField w)) := by
  rcases decodeWord_cases w with ⟨m, ho, -⟩ | ⟨-, hd⟩
  · exact absurd ho.symm (h m)
  · exact hd

/-- Settles O6: each of the eleven words is its instruction's own word, and no major operation has the last one's opcode. -/
theorem wordsWrittenFromTheLayoutsDecode : Obligations.WordsWrittenFromTheLayoutsDecode := by
  have hopcode : ∀ m, opcodeOf m ≠ opcodeField 0xFFFFFFFF#32 := fun m => by cases m <;> decide
  refine ⟨?_, ?_, ?_, ?_, ?_, ?_, ?_, ?_, ?_, ?_, ?_, decodeWord_of_unknown hopcode⟩ <;>
    exact decodeWord_of_encode_eq rfl rfl

end Sys2Proof.Machine
end
